-- ==== Sys2Proof/Word.lean ====
section
/-! DEFINITION. The two word types of the CPU12: the byte of memory and of the 8-bit registers, and the
16-bit word of the index registers, the stack pointer, the program counter and every address
(spec/00_scope.md R7). -/

namespace Sys2Proof

/-- An 8-bit value: a memory location, A, B, CCR, CCR_H (R7, R50). -/
abbrev Byte := BitVec 8

/-- A 16-bit value: D, X, Y, SP, PC, an address (R7, R33). -/
abbrev Word := BitVec 16

end Sys2Proof
end

