-- ==== Sys2Proof/Machine/Bits.lean ====
section
/-! DEFINITION. The bit-field helpers the decoder and the machine share: the halves of a word and their
concatenation (big-endian, spec/20_memory.md R52), the two widenings and the single-bit write
(spec/00_scope.md R9, R10). -/

namespace Sys2Proof

/-- `hi : lo`, `hi` the more significant byte (R10, R52). -/
def joinBytes (hi lo : Byte) : Word := hi ++ lo

/-- `v[15:8]` (R9). -/
def hiByte (v : Word) : Byte := v.extractLsb' 8 8

/-- `v[7:0]` (R9). -/
def loByte (v : Word) : Byte := v.extractLsb' 0 8

/-- `zext_16` (R10). -/
def zext16 (v : Byte) : Word := v.setWidth 16

/-- `sext_16` of a value of any width up to 16 (R10). -/
def sext16 {n : Nat} (v : BitVec n) : Word := v.signExtend 16

/-- `v` with bit `i` replaced by `b`. -/
def putBit (v : Byte) (i : Nat) (b : Bool) : Byte :=
  if b then v ||| BitVec.ofNat 8 (2 ^ i) else v &&& ~~~(BitVec.ofNat 8 (2 ^ i))

end Sys2Proof
end

