-- ==== Sys2Proof/Syntax.lean ====
section
/-! DEFINITION. The syntax of the CPU12: operand forms and the one inductive of instructions. One constructor
of `Instr` per mnemonic of spec/opcode_table.json; the rows of a mnemonic (its formats, spec/30_encoding.md
R72) are the forms of its operand. Register names, not numbers, stand in the terms: the postbytes are pulled
apart in Decode.lean and nowhere else. -/

namespace Sys2Proof

/-- The 8-bit registers of TFR, EXG and SEX (R143). -/
inductive Reg8 where
  | a
  | b
  | ccr
  deriving DecidableEq, Repr

/-- The 16-bit registers of TFR, EXG and SEX (R143). -/
inductive Reg16 where
  | d
  | x
  | y
  | sp
  deriving DecidableEq, Repr

/-- The seven registers of TFR and EXG, with their width (R93, R143). -/
inductive Reg where
  | r8 (r : Reg8)
  | r16 (r : Reg16)
  deriving DecidableEq, Repr

/-- The base register of indexed addressing, field `rr` of the postbyte (R83). -/
inductive Base where
  | x
  | y
  | sp
  | pc
  deriving DecidableEq, Repr

/-- The base register of automatic increment and decrement; PC is not one (R85). -/
inductive AutoBase where
  | x
  | y
  | sp
  deriving DecidableEq, Repr

/-- The accumulator of an accumulator offset, field `aa` of the postbyte (R86). -/
inductive AccOffset where
  | a
  | b
  | d
  deriving DecidableEq, Repr

/-- The indexed operand, one constructor per row kind of the postbyte table (R91). -/
inductive Idx where
  /-- `n5,r`: 5-bit signed constant offset (R84). -/
  | n5 (r : Base) (n : BitVec 5)
  /-- Automatic pre (`post = false`) or post (`post = true`) increment or decrement; `n` is the field
  `nnnn`, whose step is +1 to +8 or -8 to -1 (R85). -/
  | auto (r : AutoBase) (post : Bool) (n : BitVec 4)
  /-- `n9,r`: 9-bit signed constant offset `s : ff` (R87). -/
  | n9 (r : Base) (n : BitVec 9)
  /-- `n16,r`: 16-bit constant offset (R88). -/
  | n16 (r : Base) (n : Word)
  /-- `A,r`, `B,r`, `D,r`: accumulator offset (R86). -/
  | acc (r : Base) (o : AccOffset)
  /-- `[n16,r]`: the pointer at base + offset is the address (R90). -/
  | indN16 (r : Base) (n : Word)
  /-- `[D,r]`: the pointer at base + D is the address (R89). -/
  | indD (r : Base)
  deriving DecidableEq, Repr

/-- A memory operand of formats DIR, EXT and IDX (R72, R81, R82, R83). -/
inductive Ea where
  | dir (dd : Byte)
  | ext (addr : Word)
  | idx (i : Idx)
  deriving DecidableEq, Repr

/-- A memory operand of formats EXT and IDX only: CLR, TST and the memory read-modify-write instructions (R80). -/
inductive EaXI where
  | ext (addr : Word)
  | idx (i : Idx)
  deriving DecidableEq, Repr

/-- An 8-bit source operand `opr8`: formats IMM8, DIR, EXT, IDX (R18, R80). -/
inductive Src8 where
  | imm (ii : Byte)
  | mem (ea : Ea)
  deriving DecidableEq, Repr

/-- A 16-bit source operand `opr16`: formats IMM16, DIR, EXT, IDX (R18, R80). -/
inductive Src16 where
  | imm (jjkk : Word)
  | mem (ea : Ea)
  deriving DecidableEq, Repr

/-- The source of MOVB: immediate byte, extended or indexed (R94, R158). -/
inductive MovSrc8 where
  | imm (ii : Byte)
  | ext (addr : Word)
  | idx (i : Idx)
  deriving DecidableEq, Repr

/-- The source of MOVW: immediate word, extended or indexed (R94, R159). -/
inductive MovSrc16 where
  | imm (jjkk : Word)
  | ext (addr : Word)
  | idx (i : Idx)
  deriving DecidableEq, Repr

/-- The destination of MOVB and MOVW: extended or indexed (R94). -/
inductive MovDst where
  | ext (addr : Word)
  | idx (i : Idx)
  deriving DecidableEq, Repr

/-- The instructions of the CPU12 in scope: the 129 mnemonics of R4. -/
inductive Instr where
  -- Loads (R110 to R117)
  /-- LDAA (R112). -/
  | ldaa (op : Src8)
  /-- LDAB (R113). -/
  | ldab (op : Src8)
  /-- LDD (R114). -/
  | ldd (op : Src16)
  /-- LDS (R115). -/
  | lds (op : Src16)
  /-- LDX (R116). -/
  | ldx (op : Src16)
  /-- LDY (R117). -/
  | ldy (op : Src16)
  -- Load effective address (R118 to R121)
  /-- LEAS (R119). -/
  | leas (i : Idx)
  /-- LEAX (R120). -/
  | leax (i : Idx)
  /-- LEAY (R121). -/
  | leay (i : Idx)
  -- Stores (R122 to R128)
  /-- STAA (R123). -/
  | staa (ea : Ea)
  /-- STAB (R124). -/
  | stab (ea : Ea)
  /-- STD (R125). -/
  | std (ea : Ea)
  /-- STS (R126). -/
  | sts (ea : Ea)
  /-- STX (R127). -/
  | stx (ea : Ea)
  /-- STY (R128). -/
  | sty (ea : Ea)
  -- Transfer, exchange, sign extension (R140 to R156)
  /-- TFR (R144). -/
  | tfr (r1 r2 : Reg)
  /-- EXG (R145). -/
  | exg (r1 r2 : Reg)
  /-- SEX (R146). -/
  | sex (r1 : Reg8) (r2 : Reg16)
  /-- TAB (R147). -/
  | tab
  /-- TBA (R148). -/
  | tba
  /-- TAP (R149). -/
  | tap
  /-- TPA (R150). -/
  | tpa
  /-- TSX (R151). -/
  | tsx
  /-- TSY (R152). -/
  | tsy
  /-- TXS (R153). -/
  | txs
  /-- TYS (R154). -/
  | tys
  /-- XGDX (R155). -/
  | xgdx
  /-- XGDY (R156). -/
  | xgdy
  -- Memory-to-memory moves (R157 to R159)
  /-- MOVB (R158). -/
  | movb (src : MovSrc8) (dst : MovDst)
  /-- MOVW (R159). -/
  | movw (src : MovSrc16) (dst : MovDst)
  -- Stack (R170 to R189)
  /-- DES (R171). -/
  | des
  /-- INS (R172). -/
  | ins
  /-- CPS (R173). -/
  | cps (op : Src16)
  /-- PSHA (R176). -/
  | psha
  /-- PSHB (R177). -/
  | pshb
  /-- PSHC (R178). -/
  | pshc
  /-- PSHCW (R179). -/
  | pshcw
  /-- PSHD (R180). -/
  | pshd
  /-- PSHX (R181). -/
  | pshx
  /-- PSHY (R182). -/
  | pshy
  /-- PULA (R183). -/
  | pula
  /-- PULB (R184). -/
  | pulb
  /-- PULC (R185). -/
  | pulc
  /-- PULCW (R186). -/
  | pulcw
  /-- PULD (R187). -/
  | puld
  /-- PULX (R188). -/
  | pulx
  /-- PULY (R189). -/
  | puly
  -- Addition and subtraction (R200 to R217)
  /-- ABA (R201). -/
  | aba
  /-- ABX (R202). -/
  | abx
  /-- ABY (R203). -/
  | aby
  /-- ADCA (R204). -/
  | adca (op : Src8)
  /-- ADCB (R205). -/
  | adcb (op : Src8)
  /-- ADDA (R206). -/
  | adda (op : Src8)
  /-- ADDB (R207). -/
  | addb (op : Src8)
  /-- ADDD (R208). -/
  | addd (op : Src16)
  /-- SBA (R210). -/
  | sba
  /-- SBCA (R211). -/
  | sbca (op : Src8)
  /-- SBCB (R212). -/
  | sbcb (op : Src8)
  /-- SUBA (R213). -/
  | suba (op : Src8)
  /-- SUBB (R214). -/
  | subb (op : Src8)
  /-- SUBD (R215). -/
  | subd (op : Src16)
  -- Decrement and increment (R230 to R241)
  /-- DEC (R231). -/
  | dec (ea : EaXI)
  /-- DECA (R232). -/
  | deca
  /-- DECB (R233). -/
  | decb
  /-- DEX (R234). -/
  | dex
  /-- DEY (R235). -/
  | dey
  /-- INC (R236). -/
  | inc (ea : EaXI)
  /-- INCA (R237). -/
  | inca
  /-- INCB (R238). -/
  | incb
  /-- INX (R239). -/
  | inx
  /-- INY (R240). -/
  | iny
  -- Compare and test (R250 to R262)
  /-- CBA (R254). -/
  | cba
  /-- CMPA (R255). -/
  | cmpa (op : Src8)
  /-- CMPB (R256). -/
  | cmpb (op : Src8)
  /-- CPD (R257). -/
  | cpd (op : Src16)
  /-- CPX (R258). -/
  | cpx (op : Src16)
  /-- CPY (R259). -/
  | cpy (op : Src16)
  /-- TST (R260). -/
  | tst (ea : EaXI)
  /-- TSTA (R261). -/
  | tsta
  /-- TSTB (R262). -/
  | tstb
  -- Clear, complement, negate (R270 to R283)
  /-- CLC (R272). -/
  | clc
  /-- CLI (R273). -/
  | cli
  /-- CLV (R274). -/
  | clv
  /-- CLR (R275). -/
  | clr (ea : EaXI)
  /-- CLRA (R276). -/
  | clra
  /-- CLRB (R277). -/
  | clrb
  /-- COM (R278). -/
  | com (ea : EaXI)
  /-- COMA (R279). -/
  | coma
  /-- COMB (R280). -/
  | comb
  /-- NEG (R281). -/
  | neg (ea : EaXI)
  /-- NEGA (R282). -/
  | nega
  /-- NEGB (R283). -/
  | negb
  -- Multiplication and division (R290 to R304)
  /-- EMUL (R297). -/
  | emul
  /-- EMULS (R298). -/
  | emuls
  /-- MUL (R299). -/
  | mul
  /-- EDIV (R300). -/
  | ediv
  /-- EDIVS (R301). -/
  | edivs
  /-- FDIV (R302). -/
  | fdiv
  /-- IDIV (R303). -/
  | idiv
  /-- IDIVS (R304). -/
  | idivs
  -- Logic (R310 to R320)
  /-- ANDA (R313). -/
  | anda (op : Src8)
  /-- ANDB (R314). -/
  | andb (op : Src8)
  /-- ANDCC (R315). -/
  | andcc (ii : Byte)
  /-- EORA (R316). -/
  | eora (op : Src8)
  /-- EORB (R317). -/
  | eorb (op : Src8)
  /-- ORAA (R318). -/
  | oraa (op : Src8)
  /-- ORAB (R319). -/
  | orab (op : Src8)
  /-- ORCC (R320). -/
  | orcc (ii : Byte)
  -- Shift and rotate (R330 to R356)
  /-- LSL (R336). -/
  | lsl (ea : EaXI)
  /-- LSLA (R337). -/
  | lsla
  /-- LSLB (R338). -/
  | lslb
  /-- LSLD (R339). -/
  | lsld
  /-- LSR (R340). -/
  | lsr (ea : EaXI)
  /-- LSRA (R341). -/
  | lsra
  /-- LSRB (R342). -/
  | lsrb
  /-- LSRD (R343). -/
  | lsrd
  /-- ASL (R344). -/
  | asl (ea : EaXI)
  /-- ASLA (R345). -/
  | asla
  /-- ASLB (R346). -/
  | aslb
  /-- ASLD (R347). -/
  | asld
  /-- ASR (R348). -/
  | asr (ea : EaXI)
  /-- ASRA (R349). -/
  | asra
  /-- ASRB (R350). -/
  | asrb
  /-- ROL (R351). -/
  | rol (ea : EaXI)
  /-- ROLA (R352). -/
  | rola
  /-- ROLB (R353). -/
  | rolb
  /-- ROR (R354). -/
  | ror (ea : EaXI)
  /-- RORA (R355). -/
  | rora
  /-- RORB (R356). -/
  | rorb
  deriving DecidableEq, Repr

end Sys2Proof
end

