-- ==== Sys2Proof/Machine/Forms.lean ====
section
/-! DEFINITION. The operand patterns the spec shuts out by name (spec/30_encoding.md R95, R96, R97, R104),
as decidable checks on the operand alone. WellFormed.lean and the meanings both use them. -/

namespace Sys2Proof

/-- R97: LEAS, LEAX, LEAY admit the constant offsets and the accumulator offset, with any base. -/
def Idx.leaForm : Idx → Bool
  | .n5 _ _ => true
  | .auto _ _ _ => false
  | .n9 _ _ => true
  | .n16 _ _ => true
  | .acc _ _ => true
  | .indN16 _ _ => false
  | .indD _ => false

/-- R95: MOVB, MOVW admit the postbytes with no extension byte, not `[D,r]`, and no PC base. -/
def Idx.movForm : Idx → Bool
  | .n5 r _ => r != .pc
  | .auto _ _ _ => true
  | .n9 _ _ => false
  | .n16 _ _ => false
  | .acc r _ => r != .pc
  | .indN16 _ _ => false
  | .indD _ => false

/-- R85, R96: the operand automatically steps the register `r`. -/
def Idx.stepsBase (r : AutoBase) : Idx → Bool
  | .n5 _ _ => false
  | .auto r' _ _ => r' == r
  | .n9 _ _ => false
  | .n16 _ _ => false
  | .acc _ _ => false
  | .indN16 _ _ => false
  | .indD _ => false

/-- R96 for a memory operand: only its indexed form can step a register. -/
def Ea.stepsBase (r : AutoBase) : Ea → Bool
  | .dir _ => false
  | .ext _ => false
  | .idx i => i.stepsBase r

/-- R96 for a 16-bit source operand. -/
def Src16.stepsBase (r : AutoBase) : Src16 → Bool
  | .imm _ => false
  | .mem ea => ea.stepsBase r

/-- R95 for the source of MOVB. -/
def MovSrc8.movForm : MovSrc8 → Bool
  | .imm _ => true
  | .ext _ => true
  | .idx i => i.movForm

/-- R95 for the source of MOVW. -/
def MovSrc16.movForm : MovSrc16 → Bool
  | .imm _ => true
  | .ext _ => true
  | .idx i => i.movForm

/-- R95 for the destination of a move. -/
def MovDst.movForm : MovDst → Bool
  | .ext _ => true
  | .idx i => i.movForm

end Sys2Proof
end

