-- ==== Sys2Proof/Decode.lean ====
section
/-! DEFINITION. The decoder and, after it, the encoder, both written from the tables of spec/30_encoding.md
(page 1 R74, page 2 R75, formats R72, indexed postbyte R91, register postbyte R93, moves R94). The decoder is
total on any bytes and rejects by name. As R105 allows, its tables drop the rows with `alias_of`; `canonical`
then gives an alias its name back (R98). -/

namespace Sys2Proof

/-! ## Outcomes and fields -/

/-- Why bytes are no instruction. Safe: each ends the run with no next state. -/
inductive DecodeError where
  /-- An instruction byte is missing: the bytes given end before the instruction does (R73). -/
  | truncated
  /-- No row of the opcode table matches (R104), bit 3 of `eb` is set or a register code is 3 (R93). -/
  | notInScope
  /-- A move's postbyte the spec shuts out (R95). -/
  | moveIndexedForm
  deriving DecidableEq, Repr

/-- A reader of the operand bytes of one row: the instruction and the bytes after it. -/
abbrev Parser := List Byte → Except DecodeError (Instr × List Byte)

/-- Field `rr`: 00 X, 01 Y, 10 SP, 11 PC (R83). -/
def Base.ofCode (c : BitVec 2) : Base :=
  if c = 0 then .x else if c = 1 then .y else if c = 2 then .sp else .pc

/-- Field `rr` of an automatic mode: `11` is not one (R85). -/
def AutoBase.ofCode (c : BitVec 2) : Option AutoBase :=
  if c = 0 then some .x else if c = 1 then some .y else if c = 2 then some .sp else none

/-- Codes of `eb`: 0 A, 1 B, 2 CCR, 4 D, 5 X, 6 Y, 7 SP; 3 is refused (R93). -/
def Reg.ofCode (c : BitVec 3) : Option Reg :=
  if c = 0 then some (.r8 .a)
  else if c = 1 then some (.r8 .b)
  else if c = 2 then some (.r8 .ccr)
  else if c = 4 then some (.r16 .d)
  else if c = 5 then some (.r16 .x)
  else if c = 6 then some (.r16 .y)
  else if c = 7 then some (.r16 .sp)
  else none

/-- The rows `111 rr zzz` of R91, by `zzz`. -/
def decodeIdxLong (r : Base) (zzz : BitVec 3) (rest : List Byte) : Except DecodeError (Idx × List Byte) :=
  if zzz = 4 then .ok (.acc r .a, rest)
  else if zzz = 5 then .ok (.acc r .b, rest)
  else if zzz = 6 then .ok (.acc r .d, rest)
  else if zzz = 7 then .ok (.indD r, rest)
  else
    match rest with
    | [] => .error .truncated
    | ff :: rest1 =>
      if zzz = 0 then .ok (.n9 r (0#1 ++ ff), rest1)
      else if zzz = 1 then .ok (.n9 r (1#1 ++ ff), rest1)
      else
        match rest1 with
        | [] => .error .truncated
        | gg :: rest2 =>
          if zzz = 2 then .ok (.n16 r (joinBytes ff gg), rest2)
          else .ok (.indN16 r (joinBytes ff gg), rest2)

/-- The postbyte `xb` and its extension bytes (R91). -/
def decodeIdx : List Byte → Except DecodeError (Idx × List Byte)
  | [] => .error .truncated
  | xb :: rest =>
    let rr := xb.extractLsb' 6 2
    if xb.getLsbD 5 = false then .ok (.n5 (Base.ofCode rr) (xb.extractLsb' 0 5), rest)
    else
      match AutoBase.ofCode rr with
      | some r => .ok (.auto r (xb.getLsbD 4) (xb.extractLsb' 0 4), rest)
      | none => decodeIdxLong (Base.ofCode (xb.extractLsb' 3 2)) (xb.extractLsb' 0 3) rest

/-- A move's postbyte: the rows of R95 and no other. -/
def decodeMovIdx (xb : Byte) : Option Idx :=
  match decodeIdx [xb] with
  | .ok (i, _) => if i.movForm then some i else none
  | .error _ => none

/-! ## Formats (R72) -/

/-- INH and INH2: no operand byte. -/
def parseInh (i : Instr) : Parser := fun bs => .ok (i, bs)

/-- One operand byte: IMM8 and DIR. -/
def parseByte (f : Byte → Instr) : Parser
  | [] => .error .truncated
  | b :: bs => .ok (f b, bs)

/-- Two operand bytes, high byte first: IMM16 and EXT. -/
def parseWord (f : Word → Instr) : Parser
  | b1 :: b0 :: bs => .ok (f (joinBytes b1 b0), bs)
  | _ => .error .truncated

/-- IDX: a postbyte and its extension bytes. -/
def parseIdx (f : Idx → Instr) : Parser := fun bs =>
  match decodeIdx bs with
  | .ok (i, rest) => .ok (f i, rest)
  | .error e => .error e

/-- REG: bit 7 exchange, bits 6:4 first register, bit 3 zero, bits 2:0 second register (R93). -/
def parseReg : Parser
  | [] => .error .truncated
  | eb :: bs =>
    if eb.getLsbD 3 then .error .notInScope
    else
      match Reg.ofCode (eb.extractLsb' 4 3), Reg.ofCode (eb.extractLsb' 0 3) with
      | some r1, some r2 => .ok (if eb.getLsbD 7 then .exg r1 r2 else .tfr r1 r2, bs)
      | _, _ => .error .notInScope

/-- `xb ii` and `xb b1 b0`, given the bytes as a value: a move with one indexed operand (R94). -/
def movWithIdx (xb : Byte) (f : Idx → Instr) (rest : List Byte) : Except DecodeError (Instr × List Byte) :=
  match decodeMovIdx xb with
  | some i => .ok (f i, rest)
  | none => .error .moveIndexedForm

/-- `xb ii`: MOVB IMM-IDX. -/
def parseIdxByte (f : Idx → Byte → Instr) : Parser
  | xb :: b :: bs => movWithIdx xb (fun i => f i b) bs
  | _ => .error .truncated

/-- `xb hh ll`: MOVW IMM-IDX, MOVx EXT-IDX and IDX-EXT. -/
def parseIdxWord (f : Idx → Word → Instr) : Parser
  | xb :: b1 :: b0 :: bs => movWithIdx xb (fun i => f i (joinBytes b1 b0)) bs
  | _ => .error .truncated

/-- `xb xb`, source then destination: MOVx IDX-IDX. -/
def parseIdxIdx (f : Idx → Idx → Instr) : Parser
  | xb1 :: xb2 :: bs =>
    match decodeMovIdx xb1, decodeMovIdx xb2 with
    | some i, some j => .ok (f i j, bs)
    | _, _ => .error .moveIndexedForm
  | _ => .error .truncated

/-- `ii hh ll`: MOVB IMM-EXT. -/
def parseByteWord (f : Byte → Word → Instr) : Parser
  | b :: b1 :: b0 :: bs => .ok (f b (joinBytes b1 b0), bs)
  | _ => .error .truncated

/-- `hh ll hh ll`: MOVW IMM-EXT and MOVx EXT-EXT. -/
def parseWordWord (f : Word → Word → Instr) : Parser
  | a1 :: a0 :: b1 :: b0 :: bs => .ok (f (joinBytes a1 a0) (joinBytes b1 b0), bs)
  | _ => .error .truncated

/-! ## The opcode map -/

/-- Row 0 of the page-1 opcode map (R74). -/
def page1Row0 : List (Nat × Parser) := [
  (0x02, parseInh .iny),
  (0x03, parseInh .dey),
  (0x08, parseInh .inx),
  (0x09, parseInh .dex)]

/-- Row 1 of the page-1 opcode map (R74). -/
def page1Row1 : List (Nat × Parser) := [
  (0x10, parseByte .andcc),
  (0x11, parseInh .ediv),
  (0x12, parseInh .mul),
  (0x13, parseInh .emul),
  (0x14, parseByte .orcc),
  (0x19, parseIdx .leay),
  (0x1A, parseIdx .leax),
  (0x1B, parseIdx .leas)]

/-- Row 3 of the page-1 opcode map (R74). -/
def page1Row3 : List (Nat × Parser) := [
  (0x30, parseInh .pulx),
  (0x31, parseInh .puly),
  (0x32, parseInh .pula),
  (0x33, parseInh .pulb),
  (0x34, parseInh .pshx),
  (0x35, parseInh .pshy),
  (0x36, parseInh .psha),
  (0x37, parseInh .pshb),
  (0x38, parseInh .pulc),
  (0x39, parseInh .pshc),
  (0x3A, parseInh .puld),
  (0x3B, parseInh .pshd)]

/-- Row 4 of the page-1 opcode map (R74). -/
def page1Row4 : List (Nat × Parser) := [
  (0x40, parseInh .nega),
  (0x41, parseInh .coma),
  (0x42, parseInh .inca),
  (0x43, parseInh .deca),
  (0x44, parseInh .lsra),
  (0x45, parseInh .rola),
  (0x46, parseInh .rora),
  (0x47, parseInh .asra),
  (0x48, parseInh .asla),
  (0x49, parseInh .lsrd)]

/-- Row 5 of the page-1 opcode map (R74). -/
def page1Row5 : List (Nat × Parser) := [
  (0x50, parseInh .negb),
  (0x51, parseInh .comb),
  (0x52, parseInh .incb),
  (0x53, parseInh .decb),
  (0x54, parseInh .lsrb),
  (0x55, parseInh .rolb),
  (0x56, parseInh .rorb),
  (0x57, parseInh .asrb),
  (0x58, parseInh .aslb),
  (0x59, parseInh .asld),
  (0x5A, parseByte fun v => .staa (.dir v)),
  (0x5B, parseByte fun v => .stab (.dir v)),
  (0x5C, parseByte fun v => .std (.dir v)),
  (0x5D, parseByte fun v => .sty (.dir v)),
  (0x5E, parseByte fun v => .stx (.dir v)),
  (0x5F, parseByte fun v => .sts (.dir v))]

/-- Row 6 of the page-1 opcode map (R74). -/
def page1Row6 : List (Nat × Parser) := [
  (0x60, parseIdx fun v => .neg (.idx v)),
  (0x61, parseIdx fun v => .com (.idx v)),
  (0x62, parseIdx fun v => .inc (.idx v)),
  (0x63, parseIdx fun v => .dec (.idx v)),
  (0x64, parseIdx fun v => .lsr (.idx v)),
  (0x65, parseIdx fun v => .rol (.idx v)),
  (0x66, parseIdx fun v => .ror (.idx v)),
  (0x67, parseIdx fun v => .asr (.idx v)),
  (0x68, parseIdx fun v => .asl (.idx v)),
  (0x69, parseIdx fun v => .clr (.idx v)),
  (0x6A, parseIdx fun v => .staa (.idx v)),
  (0x6B, parseIdx fun v => .stab (.idx v)),
  (0x6C, parseIdx fun v => .std (.idx v)),
  (0x6D, parseIdx fun v => .sty (.idx v)),
  (0x6E, parseIdx fun v => .stx (.idx v)),
  (0x6F, parseIdx fun v => .sts (.idx v))]

/-- Row 7 of the page-1 opcode map (R74). -/
def page1Row7 : List (Nat × Parser) := [
  (0x70, parseWord fun v => .neg (.ext v)),
  (0x71, parseWord fun v => .com (.ext v)),
  (0x72, parseWord fun v => .inc (.ext v)),
  (0x73, parseWord fun v => .dec (.ext v)),
  (0x74, parseWord fun v => .lsr (.ext v)),
  (0x75, parseWord fun v => .rol (.ext v)),
  (0x76, parseWord fun v => .ror (.ext v)),
  (0x77, parseWord fun v => .asr (.ext v)),
  (0x78, parseWord fun v => .asl (.ext v)),
  (0x79, parseWord fun v => .clr (.ext v)),
  (0x7A, parseWord fun v => .staa (.ext v)),
  (0x7B, parseWord fun v => .stab (.ext v)),
  (0x7C, parseWord fun v => .std (.ext v)),
  (0x7D, parseWord fun v => .sty (.ext v)),
  (0x7E, parseWord fun v => .stx (.ext v)),
  (0x7F, parseWord fun v => .sts (.ext v))]

/-- Row 8 of the page-1 opcode map (R74). -/
def page1Row8 : List (Nat × Parser) := [
  (0x80, parseByte fun v => .suba (.imm v)),
  (0x81, parseByte fun v => .cmpa (.imm v)),
  (0x82, parseByte fun v => .sbca (.imm v)),
  (0x83, parseWord fun v => .subd (.imm v)),
  (0x84, parseByte fun v => .anda (.imm v)),
  (0x86, parseByte fun v => .ldaa (.imm v)),
  (0x87, parseInh .clra),
  (0x88, parseByte fun v => .eora (.imm v)),
  (0x89, parseByte fun v => .adca (.imm v)),
  (0x8A, parseByte fun v => .oraa (.imm v)),
  (0x8B, parseByte fun v => .adda (.imm v)),
  (0x8C, parseWord fun v => .cpd (.imm v)),
  (0x8D, parseWord fun v => .cpy (.imm v)),
  (0x8E, parseWord fun v => .cpx (.imm v)),
  (0x8F, parseWord fun v => .cps (.imm v))]

/-- Row 9 of the page-1 opcode map (R74). -/
def page1Row9 : List (Nat × Parser) := [
  (0x90, parseByte fun v => .suba (.mem (.dir v))),
  (0x91, parseByte fun v => .cmpa (.mem (.dir v))),
  (0x92, parseByte fun v => .sbca (.mem (.dir v))),
  (0x93, parseByte fun v => .subd (.mem (.dir v))),
  (0x94, parseByte fun v => .anda (.mem (.dir v))),
  (0x96, parseByte fun v => .ldaa (.mem (.dir v))),
  (0x97, parseInh .tsta),
  (0x98, parseByte fun v => .eora (.mem (.dir v))),
  (0x99, parseByte fun v => .adca (.mem (.dir v))),
  (0x9A, parseByte fun v => .oraa (.mem (.dir v))),
  (0x9B, parseByte fun v => .adda (.mem (.dir v))),
  (0x9C, parseByte fun v => .cpd (.mem (.dir v))),
  (0x9D, parseByte fun v => .cpy (.mem (.dir v))),
  (0x9E, parseByte fun v => .cpx (.mem (.dir v))),
  (0x9F, parseByte fun v => .cps (.mem (.dir v)))]

/-- Row A of the page-1 opcode map (R74). -/
def page1RowA : List (Nat × Parser) := [
  (0xA0, parseIdx fun v => .suba (.mem (.idx v))),
  (0xA1, parseIdx fun v => .cmpa (.mem (.idx v))),
  (0xA2, parseIdx fun v => .sbca (.mem (.idx v))),
  (0xA3, parseIdx fun v => .subd (.mem (.idx v))),
  (0xA4, parseIdx fun v => .anda (.mem (.idx v))),
  (0xA6, parseIdx fun v => .ldaa (.mem (.idx v))),
  (0xA8, parseIdx fun v => .eora (.mem (.idx v))),
  (0xA9, parseIdx fun v => .adca (.mem (.idx v))),
  (0xAA, parseIdx fun v => .oraa (.mem (.idx v))),
  (0xAB, parseIdx fun v => .adda (.mem (.idx v))),
  (0xAC, parseIdx fun v => .cpd (.mem (.idx v))),
  (0xAD, parseIdx fun v => .cpy (.mem (.idx v))),
  (0xAE, parseIdx fun v => .cpx (.mem (.idx v))),
  (0xAF, parseIdx fun v => .cps (.mem (.idx v)))]

/-- Row B of the page-1 opcode map (R74). -/
def page1RowB : List (Nat × Parser) := [
  (0xB0, parseWord fun v => .suba (.mem (.ext v))),
  (0xB1, parseWord fun v => .cmpa (.mem (.ext v))),
  (0xB2, parseWord fun v => .sbca (.mem (.ext v))),
  (0xB3, parseWord fun v => .subd (.mem (.ext v))),
  (0xB4, parseWord fun v => .anda (.mem (.ext v))),
  (0xB6, parseWord fun v => .ldaa (.mem (.ext v))),
  (0xB7, parseReg),
  (0xB8, parseWord fun v => .eora (.mem (.ext v))),
  (0xB9, parseWord fun v => .adca (.mem (.ext v))),
  (0xBA, parseWord fun v => .oraa (.mem (.ext v))),
  (0xBB, parseWord fun v => .adda (.mem (.ext v))),
  (0xBC, parseWord fun v => .cpd (.mem (.ext v))),
  (0xBD, parseWord fun v => .cpy (.mem (.ext v))),
  (0xBE, parseWord fun v => .cpx (.mem (.ext v))),
  (0xBF, parseWord fun v => .cps (.mem (.ext v)))]

/-- Row C of the page-1 opcode map (R74). -/
def page1RowC : List (Nat × Parser) := [
  (0xC0, parseByte fun v => .subb (.imm v)),
  (0xC1, parseByte fun v => .cmpb (.imm v)),
  (0xC2, parseByte fun v => .sbcb (.imm v)),
  (0xC3, parseWord fun v => .addd (.imm v)),
  (0xC4, parseByte fun v => .andb (.imm v)),
  (0xC6, parseByte fun v => .ldab (.imm v)),
  (0xC7, parseInh .clrb),
  (0xC8, parseByte fun v => .eorb (.imm v)),
  (0xC9, parseByte fun v => .adcb (.imm v)),
  (0xCA, parseByte fun v => .orab (.imm v)),
  (0xCB, parseByte fun v => .addb (.imm v)),
  (0xCC, parseWord fun v => .ldd (.imm v)),
  (0xCD, parseWord fun v => .ldy (.imm v)),
  (0xCE, parseWord fun v => .ldx (.imm v)),
  (0xCF, parseWord fun v => .lds (.imm v))]

/-- Row D of the page-1 opcode map (R74). -/
def page1RowD : List (Nat × Parser) := [
  (0xD0, parseByte fun v => .subb (.mem (.dir v))),
  (0xD1, parseByte fun v => .cmpb (.mem (.dir v))),
  (0xD2, parseByte fun v => .sbcb (.mem (.dir v))),
  (0xD3, parseByte fun v => .addd (.mem (.dir v))),
  (0xD4, parseByte fun v => .andb (.mem (.dir v))),
  (0xD6, parseByte fun v => .ldab (.mem (.dir v))),
  (0xD7, parseInh .tstb),
  (0xD8, parseByte fun v => .eorb (.mem (.dir v))),
  (0xD9, parseByte fun v => .adcb (.mem (.dir v))),
  (0xDA, parseByte fun v => .orab (.mem (.dir v))),
  (0xDB, parseByte fun v => .addb (.mem (.dir v))),
  (0xDC, parseByte fun v => .ldd (.mem (.dir v))),
  (0xDD, parseByte fun v => .ldy (.mem (.dir v))),
  (0xDE, parseByte fun v => .ldx (.mem (.dir v))),
  (0xDF, parseByte fun v => .lds (.mem (.dir v)))]

/-- Row E of the page-1 opcode map (R74). -/
def page1RowE : List (Nat × Parser) := [
  (0xE0, parseIdx fun v => .subb (.mem (.idx v))),
  (0xE1, parseIdx fun v => .cmpb (.mem (.idx v))),
  (0xE2, parseIdx fun v => .sbcb (.mem (.idx v))),
  (0xE3, parseIdx fun v => .addd (.mem (.idx v))),
  (0xE4, parseIdx fun v => .andb (.mem (.idx v))),
  (0xE6, parseIdx fun v => .ldab (.mem (.idx v))),
  (0xE7, parseIdx fun v => .tst (.idx v)),
  (0xE8, parseIdx fun v => .eorb (.mem (.idx v))),
  (0xE9, parseIdx fun v => .adcb (.mem (.idx v))),
  (0xEA, parseIdx fun v => .orab (.mem (.idx v))),
  (0xEB, parseIdx fun v => .addb (.mem (.idx v))),
  (0xEC, parseIdx fun v => .ldd (.mem (.idx v))),
  (0xED, parseIdx fun v => .ldy (.mem (.idx v))),
  (0xEE, parseIdx fun v => .ldx (.mem (.idx v))),
  (0xEF, parseIdx fun v => .lds (.mem (.idx v)))]

/-- Row F of the page-1 opcode map (R74). -/
def page1RowF : List (Nat × Parser) := [
  (0xF0, parseWord fun v => .subb (.mem (.ext v))),
  (0xF1, parseWord fun v => .cmpb (.mem (.ext v))),
  (0xF2, parseWord fun v => .sbcb (.mem (.ext v))),
  (0xF3, parseWord fun v => .addd (.mem (.ext v))),
  (0xF4, parseWord fun v => .andb (.mem (.ext v))),
  (0xF6, parseWord fun v => .ldab (.mem (.ext v))),
  (0xF7, parseWord fun v => .tst (.ext v)),
  (0xF8, parseWord fun v => .eorb (.mem (.ext v))),
  (0xF9, parseWord fun v => .adcb (.mem (.ext v))),
  (0xFA, parseWord fun v => .orab (.mem (.ext v))),
  (0xFB, parseWord fun v => .addb (.mem (.ext v))),
  (0xFC, parseWord fun v => .ldd (.mem (.ext v))),
  (0xFD, parseWord fun v => .ldy (.mem (.ext v))),
  (0xFE, parseWord fun v => .ldx (.mem (.ext v))),
  (0xFF, parseWord fun v => .lds (.mem (.ext v)))]

/-- Page 1 of the opcode map (R74), less the rows with `alias_of` (R105). A byte not listed is out of scope. -/
def page1 : List (Nat × Parser) :=
  page1Row0 ++ page1Row1 ++ page1Row3 ++ page1Row4 ++ page1Row5 ++ page1Row6 ++
    page1Row7 ++ page1Row8 ++ page1Row9 ++ page1RowA ++ page1RowB ++ page1RowC ++ page1RowD ++ page1RowE ++ page1RowF

/-- The moves of page 2 (R75). -/
def page2Moves : List (Nat × Parser) := [
  (0x00, parseIdxWord fun i v => .movw (.imm v) (.idx i)),
  (0x01, parseIdxWord fun i a => .movw (.ext a) (.idx i)),
  (0x02, parseIdxIdx fun i j => .movw (.idx i) (.idx j)),
  (0x03, parseWordWord fun v a => .movw (.imm v) (.ext a)),
  (0x04, parseWordWord fun a b => .movw (.ext a) (.ext b)),
  (0x05, parseIdxWord fun i a => .movw (.idx i) (.ext a)),
  (0x08, parseIdxByte fun i v => .movb (.imm v) (.idx i)),
  (0x09, parseIdxWord fun i a => .movb (.ext a) (.idx i)),
  (0x0A, parseIdxIdx fun i j => .movb (.idx i) (.idx j)),
  (0x0B, parseByteWord fun v a => .movb (.imm v) (.ext a)),
  (0x0C, parseWordWord fun a b => .movb (.ext a) (.ext b)),
  (0x0D, parseIdxWord fun i a => .movb (.idx i) (.ext a))]

/-- The inherent instructions of page 2 (R75). -/
def page2Inherent : List (Nat × Parser) := [
  (0x06, parseInh .aba),
  (0x0E, parseInh .tab),
  (0x0F, parseInh .tba),
  (0x10, parseInh .idiv),
  (0x11, parseInh .fdiv),
  (0x13, parseInh .emuls),
  (0x14, parseInh .edivs),
  (0x15, parseInh .idivs),
  (0x16, parseInh .sba),
  (0x17, parseInh .cba),
  (0x38, parseInh .pulcw),
  (0x39, parseInh .pshcw)]

/-- Page 2 of the opcode map, after the prefix 0x18 (R75). -/
def page2 : List (Nat × Parser) := page2Moves ++ page2Inherent

/-- Run the row of `op` in a page; no row is `notInScope` (R104). -/
def decodeWith (page : List (Nat × Parser)) (op : Byte) (rest : List Byte) : Except DecodeError (Instr × List Byte) :=
  match page.lookup op.toNat with
  | some p => p rest
  | none => .error .notInScope

/-- The general instruction the bytes hold, aliases not named (R73, R105). -/
def decodeGeneral : List Byte → Except DecodeError (Instr × List Byte)
  | [] => .error .truncated
  | op :: rest =>
    if op = 0x18#8 then
      match rest with
      | [] => .error .truncated
      | op2 :: rest2 => decodeWith page2 op2 rest2
    else decodeWith page1 op rest

/-! ## Alias names (R98, R99) -/

/-- The alias ANDCC's mask has: CLC, CLI, CLV (R98). -/
def nameAndcc (ii : Byte) : Instr :=
  if ii = 0xFE#8 then .clc else if ii = 0xEF#8 then .cli else if ii = 0xFD#8 then .clv else .andcc ii

/-- The alias of a transfer: TAP, TPA, TSX, TSY, TXS, TYS, and SEX for 8 to 16 bits (R98). -/
def nameTfr (r1 r2 : Reg) : Instr :=
  match r1, r2 with
  | .r8 .a, .r8 .ccr => .tap
  | .r8 .ccr, .r8 .a => .tpa
  | .r8 r1, .r8 r2 => .tfr (.r8 r1) (.r8 r2)
  | .r8 r1, .r16 r2 => .sex r1 r2
  | .r16 r1, .r8 r2 => .tfr (.r16 r1) (.r8 r2)
  | .r16 .sp, .r16 .x => .tsx
  | .r16 .sp, .r16 .y => .tsy
  | .r16 .x, .r16 .sp => .txs
  | .r16 .y, .r16 .sp => .tys
  | .r16 r1, .r16 r2 => .tfr (.r16 r1) (.r16 r2)

/-- The alias of an exchange: XGDX, XGDY (R98). -/
def nameExg (r1 r2 : Reg) : Instr :=
  if r1 = .r16 .d ∧ r2 = .r16 .x then .xgdx
  else if r1 = .r16 .d ∧ r2 = .r16 .y then .xgdy
  else .exg r1 r2

/-- The one name the decoder gives an instruction's words: the alias of R98 where the words are an alias's,
and ASL for the words ASL and LSL share (R99). DESIGN CHOICE (notes/assumptions/13.md); safe, since both
names have the same meaning. -/
def canonical (i : Instr) : Instr :=
  match i with
  | .ldaa op => .ldaa op
  | .ldab op => .ldab op
  | .ldd op => .ldd op
  | .lds op => .lds op
  | .ldx op => .ldx op
  | .ldy op => .ldy op
  | .leas i => if i = .n5 .sp 31 then .des else if i = .n5 .sp 1 then .ins else .leas i
  | .leax i => if i = .acc .x .b then .abx else .leax i
  | .leay i => if i = .acc .y .b then .aby else .leay i
  | .staa ea => .staa ea
  | .stab ea => .stab ea
  | .std ea => .std ea
  | .sts ea => .sts ea
  | .stx ea => .stx ea
  | .sty ea => .sty ea
  | .tfr r1 r2 => nameTfr r1 r2
  | .exg r1 r2 => nameExg r1 r2
  | .sex r1 r2 => .sex r1 r2
  | .tab => .tab
  | .tba => .tba
  | .tap => .tap
  | .tpa => .tpa
  | .tsx => .tsx
  | .tsy => .tsy
  | .txs => .txs
  | .tys => .tys
  | .xgdx => .xgdx
  | .xgdy => .xgdy
  | .movb src dst => .movb src dst
  | .movw src dst => .movw src dst
  | .des => .des
  | .ins => .ins
  | .cps op => .cps op
  | .psha => .psha
  | .pshb => .pshb
  | .pshc => .pshc
  | .pshcw => .pshcw
  | .pshd => .pshd
  | .pshx => .pshx
  | .pshy => .pshy
  | .pula => .pula
  | .pulb => .pulb
  | .pulc => .pulc
  | .pulcw => .pulcw
  | .puld => .puld
  | .pulx => .pulx
  | .puly => .puly
  | .aba => .aba
  | .abx => .abx
  | .aby => .aby
  | .adca op => .adca op
  | .adcb op => .adcb op
  | .adda op => .adda op
  | .addb op => .addb op
  | .addd op => .addd op
  | .sba => .sba
  | .sbca op => .sbca op
  | .sbcb op => .sbcb op
  | .suba op => .suba op
  | .subb op => .subb op
  | .subd op => .subd op
  | .dec ea => .dec ea
  | .deca => .deca
  | .decb => .decb
  | .dex => .dex
  | .dey => .dey
  | .inc ea => .inc ea
  | .inca => .inca
  | .incb => .incb
  | .inx => .inx
  | .iny => .iny
  | .cba => .cba
  | .cmpa op => .cmpa op
  | .cmpb op => .cmpb op
  | .cpd op => .cpd op
  | .cpx op => .cpx op
  | .cpy op => .cpy op
  | .tst ea => .tst ea
  | .tsta => .tsta
  | .tstb => .tstb
  | .clc => .clc
  | .cli => .cli
  | .clv => .clv
  | .clr ea => .clr ea
  | .clra => .clra
  | .clrb => .clrb
  | .com ea => .com ea
  | .coma => .coma
  | .comb => .comb
  | .neg ea => .neg ea
  | .nega => .nega
  | .negb => .negb
  | .emul => .emul
  | .emuls => .emuls
  | .mul => .mul
  | .ediv => .ediv
  | .edivs => .edivs
  | .fdiv => .fdiv
  | .idiv => .idiv
  | .idivs => .idivs
  | .anda op => .anda op
  | .andb op => .andb op
  | .andcc ii => nameAndcc ii
  | .eora op => .eora op
  | .eorb op => .eorb op
  | .oraa op => .oraa op
  | .orab op => .orab op
  | .orcc ii => .orcc ii
  | .lsl ea => .asl ea
  | .lsla => .asla
  | .lslb => .aslb
  | .lsld => .asld
  | .lsr ea => .lsr ea
  | .lsra => .lsra
  | .lsrb => .lsrb
  | .lsrd => .lsrd
  | .asl ea => .asl ea
  | .asla => .asla
  | .aslb => .aslb
  | .asld => .asld
  | .asr ea => .asr ea
  | .asra => .asra
  | .asrb => .asrb
  | .rol ea => .rol ea
  | .rola => .rola
  | .rolb => .rolb
  | .ror ea => .ror ea
  | .rora => .rora
  | .rorb => .rorb

/-- Decode the instruction at the head of the bytes: the instruction under its canonical name and the bytes
after it, or why there is none (R73, R74, R75, R104). -/
def decode (bs : List Byte) : Except DecodeError (Instr × List Byte) :=
  match decodeGeneral bs with
  | .ok (i, rest) => .ok (canonical i, rest)
  | .error e => .error e

/-! ## The encoder -/

/-- Field `rr` of a base register (R83). -/
def Base.code : Base → BitVec 2
  | .x => 0
  | .y => 1
  | .sp => 2
  | .pc => 3

/-- Field `rr` of an automatically stepped register (R85). -/
def AutoBase.code : AutoBase → BitVec 2
  | .x => 0
  | .y => 1
  | .sp => 2

/-- Field `aa` of an accumulator offset (R86). -/
def AccOffset.code : AccOffset → BitVec 2
  | .a => 0
  | .b => 1
  | .d => 2

/-- The code of a register in `eb` (R93). -/
def Reg.code : Reg → BitVec 3
  | .r8 .a => 0
  | .r8 .b => 1
  | .r8 .ccr => 2
  | .r16 .d => 4
  | .r16 .x => 5
  | .r16 .y => 6
  | .r16 .sp => 7

/-- The postbyte `xb` and its extension bytes (R84 to R90). -/
def encodeIdx : Idx → List Byte
  | .n5 r n => [r.code ++ 0#1 ++ n]
  | .auto r post n => [r.code ++ 1#1 ++ BitVec.ofBool post ++ n]
  | .n9 r n => [7#3 ++ r.code ++ 0#2 ++ n.extractLsb' 8 1, n.extractLsb' 0 8]
  | .n16 r n => [7#3 ++ r.code ++ 2#3, hiByte n, loByte n]
  | .acc r o => [7#3 ++ r.code ++ 1#1 ++ o.code]
  | .indN16 r n => [7#3 ++ r.code ++ 3#3, hiByte n, loByte n]
  | .indD r => [7#3 ++ r.code ++ 7#3]

/-- Two bytes, high byte first (R71). -/
def encodeWord (v : Word) : List Byte := [hiByte v, loByte v]

/-- DIR, EXT, IDX under their three opcodes (R72). -/
def encodeEa (dir ext idx : Byte) : Ea → List Byte
  | .dir dd => [dir, dd]
  | .ext a => ext :: encodeWord a
  | .idx i => idx :: encodeIdx i

/-- EXT, IDX under their two opcodes (R72). -/
def encodeEaXI (ext idx : Byte) : EaXI → List Byte
  | .ext a => ext :: encodeWord a
  | .idx i => idx :: encodeIdx i

/-- IMM8, DIR, EXT, IDX under their four opcodes (R72). -/
def encodeSrc8 (imm dir ext idx : Byte) : Src8 → List Byte
  | .imm v => [imm, v]
  | .mem ea => encodeEa dir ext idx ea

/-- IMM16, DIR, EXT, IDX under their four opcodes (R72). -/
def encodeSrc16 (imm dir ext idx : Byte) : Src16 → List Byte
  | .imm v => imm :: encodeWord v
  | .mem ea => encodeEa dir ext idx ea

/-- The register postbyte (R93). -/
def encodeReg (exchange : Bool) (r1 r2 : Reg) : Byte := BitVec.ofBool exchange ++ r1.code ++ 0#1 ++ r2.code

/-- The six layouts of MOVB (R94, R75). -/
def encodeMovb : MovSrc8 → MovDst → List Byte
  | .imm v, .idx j => 0x18#8 :: 0x08#8 :: encodeIdx j ++ [v]
  | .ext a, .idx j => 0x18#8 :: 0x09#8 :: encodeIdx j ++ encodeWord a
  | .idx i, .idx j => 0x18#8 :: 0x0A#8 :: encodeIdx i ++ encodeIdx j
  | .imm v, .ext b => 0x18#8 :: 0x0B#8 :: v :: encodeWord b
  | .ext a, .ext b => 0x18#8 :: 0x0C#8 :: encodeWord a ++ encodeWord b
  | .idx i, .ext b => 0x18#8 :: 0x0D#8 :: encodeIdx i ++ encodeWord b

/-- The six layouts of MOVW (R94, R75). -/
def encodeMovw : MovSrc16 → MovDst → List Byte
  | .imm v, .idx j => 0x18#8 :: 0x00#8 :: encodeIdx j ++ encodeWord v
  | .ext a, .idx j => 0x18#8 :: 0x01#8 :: encodeIdx j ++ encodeWord a
  | .idx i, .idx j => 0x18#8 :: 0x02#8 :: encodeIdx i ++ encodeIdx j
  | .imm v, .ext b => 0x18#8 :: 0x03#8 :: encodeWord v ++ encodeWord b
  | .ext a, .ext b => 0x18#8 :: 0x04#8 :: encodeWord a ++ encodeWord b
  | .idx i, .ext b => 0x18#8 :: 0x05#8 :: encodeIdx i ++ encodeWord b

/-- The bytes of an instruction, in stream order (R71): each constructor from the Encoding clause of its own
rule. -/
def encode (i : Instr) : List Byte :=
  match i with
  | .ldaa op => encodeSrc8 0x86#8 0x96#8 0xB6#8 0xA6#8 op
  | .ldab op => encodeSrc8 0xC6#8 0xD6#8 0xF6#8 0xE6#8 op
  | .ldd op => encodeSrc16 0xCC#8 0xDC#8 0xFC#8 0xEC#8 op
  | .lds op => encodeSrc16 0xCF#8 0xDF#8 0xFF#8 0xEF#8 op
  | .ldx op => encodeSrc16 0xCE#8 0xDE#8 0xFE#8 0xEE#8 op
  | .ldy op => encodeSrc16 0xCD#8 0xDD#8 0xFD#8 0xED#8 op
  | .leas i => 0x1B#8 :: encodeIdx i
  | .leax i => 0x1A#8 :: encodeIdx i
  | .leay i => 0x19#8 :: encodeIdx i
  | .staa ea => encodeEa 0x5A#8 0x7A#8 0x6A#8 ea
  | .stab ea => encodeEa 0x5B#8 0x7B#8 0x6B#8 ea
  | .std ea => encodeEa 0x5C#8 0x7C#8 0x6C#8 ea
  | .sts ea => encodeEa 0x5F#8 0x7F#8 0x6F#8 ea
  | .stx ea => encodeEa 0x5E#8 0x7E#8 0x6E#8 ea
  | .sty ea => encodeEa 0x5D#8 0x7D#8 0x6D#8 ea
  | .tfr r1 r2 => [0xB7#8, encodeReg false r1 r2]
  | .exg r1 r2 => [0xB7#8, encodeReg true r1 r2]
  | .sex r1 r2 => [0xB7#8, encodeReg false (.r8 r1) (.r16 r2)]
  | .tab => [0x18#8, 0x0E#8]
  | .tba => [0x18#8, 0x0F#8]
  | .tap => [0xB7#8, 0x02#8]
  | .tpa => [0xB7#8, 0x20#8]
  | .tsx => [0xB7#8, 0x75#8]
  | .tsy => [0xB7#8, 0x76#8]
  | .txs => [0xB7#8, 0x57#8]
  | .tys => [0xB7#8, 0x67#8]
  | .xgdx => [0xB7#8, 0xC5#8]
  | .xgdy => [0xB7#8, 0xC6#8]
  | .movb src dst => encodeMovb src dst
  | .movw src dst => encodeMovw src dst
  | .des => [0x1B#8, 0x9F#8]
  | .ins => [0x1B#8, 0x81#8]
  | .cps op => encodeSrc16 0x8F#8 0x9F#8 0xBF#8 0xAF#8 op
  | .psha => [0x36#8]
  | .pshb => [0x37#8]
  | .pshc => [0x39#8]
  | .pshcw => [0x18#8, 0x39#8]
  | .pshd => [0x3B#8]
  | .pshx => [0x34#8]
  | .pshy => [0x35#8]
  | .pula => [0x32#8]
  | .pulb => [0x33#8]
  | .pulc => [0x38#8]
  | .pulcw => [0x18#8, 0x38#8]
  | .puld => [0x3A#8]
  | .pulx => [0x30#8]
  | .puly => [0x31#8]
  | .aba => [0x18#8, 0x06#8]
  | .abx => [0x1A#8, 0xE5#8]
  | .aby => [0x19#8, 0xED#8]
  | .adca op => encodeSrc8 0x89#8 0x99#8 0xB9#8 0xA9#8 op
  | .adcb op => encodeSrc8 0xC9#8 0xD9#8 0xF9#8 0xE9#8 op
  | .adda op => encodeSrc8 0x8B#8 0x9B#8 0xBB#8 0xAB#8 op
  | .addb op => encodeSrc8 0xCB#8 0xDB#8 0xFB#8 0xEB#8 op
  | .addd op => encodeSrc16 0xC3#8 0xD3#8 0xF3#8 0xE3#8 op
  | .sba => [0x18#8, 0x16#8]
  | .sbca op => encodeSrc8 0x82#8 0x92#8 0xB2#8 0xA2#8 op
  | .sbcb op => encodeSrc8 0xC2#8 0xD2#8 0xF2#8 0xE2#8 op
  | .suba op => encodeSrc8 0x80#8 0x90#8 0xB0#8 0xA0#8 op
  | .subb op => encodeSrc8 0xC0#8 0xD0#8 0xF0#8 0xE0#8 op
  | .subd op => encodeSrc16 0x83#8 0x93#8 0xB3#8 0xA3#8 op
  | .dec ea => encodeEaXI 0x73#8 0x63#8 ea
  | .deca => [0x43#8]
  | .decb => [0x53#8]
  | .dex => [0x09#8]
  | .dey => [0x03#8]
  | .inc ea => encodeEaXI 0x72#8 0x62#8 ea
  | .inca => [0x42#8]
  | .incb => [0x52#8]
  | .inx => [0x08#8]
  | .iny => [0x02#8]
  | .cba => [0x18#8, 0x17#8]
  | .cmpa op => encodeSrc8 0x81#8 0x91#8 0xB1#8 0xA1#8 op
  | .cmpb op => encodeSrc8 0xC1#8 0xD1#8 0xF1#8 0xE1#8 op
  | .cpd op => encodeSrc16 0x8C#8 0x9C#8 0xBC#8 0xAC#8 op
  | .cpx op => encodeSrc16 0x8E#8 0x9E#8 0xBE#8 0xAE#8 op
  | .cpy op => encodeSrc16 0x8D#8 0x9D#8 0xBD#8 0xAD#8 op
  | .tst ea => encodeEaXI 0xF7#8 0xE7#8 ea
  | .tsta => [0x97#8]
  | .tstb => [0xD7#8]
  | .clc => [0x10#8, 0xFE#8]
  | .cli => [0x10#8, 0xEF#8]
  | .clv => [0x10#8, 0xFD#8]
  | .clr ea => encodeEaXI 0x79#8 0x69#8 ea
  | .clra => [0x87#8]
  | .clrb => [0xC7#8]
  | .com ea => encodeEaXI 0x71#8 0x61#8 ea
  | .coma => [0x41#8]
  | .comb => [0x51#8]
  | .neg ea => encodeEaXI 0x70#8 0x60#8 ea
  | .nega => [0x40#8]
  | .negb => [0x50#8]
  | .emul => [0x13#8]
  | .emuls => [0x18#8, 0x13#8]
  | .mul => [0x12#8]
  | .ediv => [0x11#8]
  | .edivs => [0x18#8, 0x14#8]
  | .fdiv => [0x18#8, 0x11#8]
  | .idiv => [0x18#8, 0x10#8]
  | .idivs => [0x18#8, 0x15#8]
  | .anda op => encodeSrc8 0x84#8 0x94#8 0xB4#8 0xA4#8 op
  | .andb op => encodeSrc8 0xC4#8 0xD4#8 0xF4#8 0xE4#8 op
  | .andcc ii => [0x10#8, ii]
  | .eora op => encodeSrc8 0x88#8 0x98#8 0xB8#8 0xA8#8 op
  | .eorb op => encodeSrc8 0xC8#8 0xD8#8 0xF8#8 0xE8#8 op
  | .oraa op => encodeSrc8 0x8A#8 0x9A#8 0xBA#8 0xAA#8 op
  | .orab op => encodeSrc8 0xCA#8 0xDA#8 0xFA#8 0xEA#8 op
  | .orcc ii => [0x14#8, ii]
  | .lsl ea => encodeEaXI 0x78#8 0x68#8 ea
  | .lsla => [0x48#8]
  | .lslb => [0x58#8]
  | .lsld => [0x59#8]
  | .lsr ea => encodeEaXI 0x74#8 0x64#8 ea
  | .lsra => [0x44#8]
  | .lsrb => [0x54#8]
  | .lsrd => [0x49#8]
  | .asl ea => encodeEaXI 0x78#8 0x68#8 ea
  | .asla => [0x48#8]
  | .aslb => [0x58#8]
  | .asld => [0x59#8]
  | .asr ea => encodeEaXI 0x77#8 0x67#8 ea
  | .asra => [0x47#8]
  | .asrb => [0x57#8]
  | .rol ea => encodeEaXI 0x75#8 0x65#8 ea
  | .rola => [0x45#8]
  | .rolb => [0x55#8]
  | .ror ea => encodeEaXI 0x76#8 0x66#8 ea
  | .rora => [0x46#8]
  | .rorb => [0x56#8]

/-- The length of an instruction in bytes (R72, R73). -/
def byteLength (i : Instr) : Nat := (encode i).length

/-! ## Table words -/

/-- The six bytes of an instruction whose bits are `w`: byte 0 is bits 7..0, byte 1 bits 15..8, and so on;
every bit at or above `nbits` is zero. -/
def wordBytes (nbits w : Nat) : List Byte :=
  (List.range 6).map fun k => BitVec.ofNat 8 ((w % 2 ^ nbits) >>> (8 * k))

/-- The instruction the decoder reads from a table word; none where it refuses. -/
def decodeTableWord (nbits w : Nat) : Option Instr :=
  match decode (wordBytes nbits w) with
  | .ok (i, _) => some i
  | .error _ => none

end Sys2Proof
end

