-- ==== Sys2Proof/Config.lean ====
section
/-! DEFINITION. What an implementation fixes and the spec does not: the values no rule states. -/

namespace Sys2Proof

/-- The free values, numbered by the state's counter `freeCount`: no body, so nothing can be proved of one.
They stand for the results spec/47_mul_div.md R296 and spec/41_transfer_exchange_move.md R145 leave unstated. DESIGN CHOICE (notes/assumptions/11.md); safe. -/
opaque Config.freeWord : Nat → Word

end Sys2Proof
end

