-- ==== Sys2Proof/Machine/State.lean ====
section
/-! DEFINITION. The state of the machine as plain data: the registers and memory of spec/10_state.md R20, the
parameters of spec/00_scope.md R7 under `launch`, and the counter of free values; why a step can stop; the
state after reset. -/

namespace Sys2Proof.Machine

/-- Memory as (address, byte) pairs, addresses strictly rising, no byte equal to what an unlisted address
reads as (R50; the canonical form is `Memory.wf`). -/
abbrev Memory := List Host.Cell

/-- An inclusive range of addresses. -/
structure Region where
  lo : Word
  hi : Word
  deriving DecidableEq, Repr

/-- The parameters of the model (R7, R391), which no step changes. DESIGN CHOICE: held in the state so that
every statement is about every value of them (notes/assumptions/2.md); safe. -/
structure Launch where
  /-- The addresses that are memory: `Admitted` (R51). -/
  admitted : List Region
  /-- First address of the program text (R63). -/
  codeLo : Word
  /-- Last address of the program text (R63). -/
  codeHi : Word
  /-- The PC at which the run ends (R383). -/
  endPc : Word
  /-- The bits of CCR_H that PULCW can change (R31). -/
  ccrhMask : Byte
  /-- Whether operand values with no stated result (of a division R296, of an exchange R145) are refused by their
  name of R376 (`true`, the spec's rule) or run with free values (`false`). DESIGN CHOICE: that there is a choice
  (notes/assumptions/9.md); safe. -/
  refuseUnstated : Bool
  deriving DecidableEq, Repr

/-- The state (R20). -/
structure State where
  /-- Accumulator A (R21). -/
  a : Byte
  /-- Accumulator B (R21). -/
  b : Byte
  /-- Index register X (R23). -/
  x : Word
  /-- Index register Y (R23). -/
  y : Word
  /-- Stack pointer SP (R24). -/
  sp : Word
  /-- Program counter PC (R27). -/
  pc : Word
  /-- Condition codes S X H I N Z V C, bits 7 to 0 (R28). -/
  ccr : Byte
  /-- CCR_H, eight opaque bits (R31). -/
  ccrh : Byte
  /-- Memory (R50). -/
  mem : Memory
  /-- The parameters of the model (R7). -/
  launch : Launch
  /-- The model's own: how many free values have been used (notes/assumptions/11.md). -/
  freeCount : Nat
  deriving DecidableEq, Repr

/-- Why a step stops with no refusal. -/
inductive Fault where
  /-- A memory access touches a byte that is not admitted (R51, R377). Raised by the memory operations and by
  the fetch. Safe: the platform parameter gives the address no meaning. -/
  | stuck
  /-- PC is at `end_pc`: the run is over and the state is its end state (R383). Raised by the fetch. Safe: no
  claim goes beyond the end. -/
  | runEnded
  deriving DecidableEq, Repr

/-- Why a step gives no meaning: the names of R376. -/
inductive Refusal where
  /-- No row of the opcode table matches the bytes at PC (R93, R104). Raised by the fetch. Safe. -/
  | notInScope
  /-- MOVB or MOVW with an indexed operand the spec shuts out (R95). Raised by the fetch and the moves. Safe. -/
  | moveIndexedForm
  /-- The automatically stepped base is the instruction's own register operand (R96).
  Raised by LDX, LDY, LDS, STX, STY, STS, CPX, CPY, CPS. Safe. -/
  | baseIsOperand
  /-- LEAS, LEAX, LEAY with an automatic or indirect mode (R97). Raised by these three.
  Safe. -/
  | leaForm
  /-- A memory write touches the program text (R63). Raised by the memory operations. Safe. -/
  | writeToCode
  /-- An instruction byte lies outside the program text (R63). Raised by the fetch. Safe. -/
  | fetchOutsideCode
  /-- A divide with X = 0 under `refuseUnstated` (R296). Raised by EDIV, EDIVS, FDIV, IDIV, IDIVS. Safe. -/
  | divideByZero
  /-- A quotient that does not fit, or FDIV with dividend not less than divisor, under `refuseUnstated` (R296).
  Raised by EDIV, EDIVS, FDIV, IDIVS. Safe. -/
  | divideOverflow
  /-- EXG between an 8-bit and a 16-bit register under `refuseUnstated` (R145). Raised by EXG. Safe. -/
  | mixedSizeExchange
  /-- The instruction has no meaning in the model. Raised by no arm of `exec`. Safe. -/
  | notModelled (mnemonic : String)
  deriving DecidableEq, Repr

/-- The launch parameters at reset: every address admitted, program text 0x2000 to 0x2FFF, end 0x3000, plain
CCR_H: DESIGN CHOICE (notes/assumptions/6.md, 5.md); unsafe. Operand values with no stated result are refused, as
R145, R296 and R376 say. -/
def Launch.reset : Launch :=
  { admitted := [⟨0x0000#16, 0xFFFF#16⟩]
    codeLo := 0x2000#16
    codeHi := 0x2FFF#16
    endPc := 0x3000#16
    ccrhMask := 0xFF#8
    refuseUnstated := true }

/-- The state after reset. The spec states no reset value (R35, R390): A, B, X, Y, SP, CCR_H zero and PC 0x2000
are DESIGN CHOICE (notes/assumptions/3.md, 5.md, 6.md), CCR 0xD0 (S = X = I = 1) is PRESUMED, the family's
(notes/assumptions/4.md); unsafe. -/
def State.reset : State :=
  { a := 0x00#8
    b := 0x00#8
    x := 0x0000#16
    y := 0x0000#16
    sp := 0x0000#16
    pc := 0x2000#16
    ccr := 0xD0#8
    ccrh := 0x00#8
    mem := []
    launch := Launch.reset
    freeCount := 0 }

end Sys2Proof.Machine
end

