-- ==== Sys2Proof/Machine/Flags.lean ====
section
/-! DEFINITION. The condition code register and every flag computation: the bit accessors (spec/10_state.md
R28), WriteCCR (R30), the update of a row of R29, the helpers add_n, sub_n, nz_n (spec/00_scope.md R15, R16,
R17) and the shift operations (spec/49_shift_rotate.md R332, R333). -/

namespace Sys2Proof.Machine

/-! ## CCR -/

/-- `CCR.C`, bit 0 (R28). -/
def State.flagC (s : State) : Bool := s.ccr.getLsbD 0

/-- What an instruction does to H, N, Z, V, C and I: `none` leaves the bit, `some b` writes `b` (a row of R29). -/
structure FlagUpdate where
  h : Option Bool := none
  i : Option Bool := none
  n : Option Bool := none
  z : Option Bool := none
  v : Option Bool := none
  c : Option Bool := none
  deriving DecidableEq, Repr

/-- Write bit `k` where a value is given. -/
def putBitIf (ccr : Byte) (k : Nat) : Option Bool → Byte
  | none => ccr
  | some b => putBit ccr k b

/-- CCR after a row of R29; positions H 5, I 4, N 3, Z 2, V 1, C 0 (R28). -/
def applyFlags (ccr : Byte) (u : FlagUpdate) : Byte :=
  putBitIf (putBitIf (putBitIf (putBitIf (putBitIf (putBitIf ccr 5 u.h) 4 u.i) 3 u.n) 2 u.z) 1 u.v) 0 u.c

/-- The state with a row of R29 applied to CCR. -/
def State.setFlags (s : State) (u : FlagUpdate) : State := { s with ccr := applyFlags s.ccr u }

/-- `WriteCCR(v)`: bit 6 (X) can be cleared, never set (R30). -/
def writtenCcr (old v : Byte) : Byte := (v &&& 0xBF#8) ||| ((old &&& v) &&& 0x40#8)

/-- The state after `WriteCCR(v)` (R30). -/
def State.writeCcr (s : State) (v : Byte) : State := { s with ccr := writtenCcr s.ccr v }

/-! ## Flags of a value -/

/-- N and Z from the value, V cleared, C kept: loads, stores, TAB, TBA, logic (R111, R147, R312). -/
def nzUpdate {n : Nat} (v : BitVec n) : FlagUpdate :=
  { n := some v.msb, z := some (v == 0#n), v := some false }

/-! ## Addition and subtraction -/

/-- The outputs of `add_n` (R15). -/
structure AddOut (n : Nat) where
  r : BitVec n
  hf : Bool
  nf : Bool
  zf : Bool
  vf : Bool
  cf : Bool
  deriving DecidableEq, Repr

/-- `add_n(a, b, cin)` (R15). -/
def addN {n : Nat} (a b : BitVec n) (cin : Bool) : AddOut n :=
  let sum := a.toNat + b.toNat + cin.toNat
  let r := BitVec.ofNat n sum
  { r := r
    hf := decide (16 ≤ a.toNat % 16 + b.toNat % 16 + cin.toNat)
    nf := r.msb
    zf := r == 0#n
    vf := (a.msb == b.msb) && (r.msb != a.msb)
    cf := decide (2 ^ n ≤ sum) }

/-- The outputs of `sub_n` (R16). -/
structure SubOut (n : Nat) where
  r : BitVec n
  nf : Bool
  zf : Bool
  vf : Bool
  cf : Bool
  deriving DecidableEq, Repr

/-- `sub_n(a, b, bin)` (R16). -/
def subN {n : Nat} (a b : BitVec n) (bin : Bool) : SubOut n :=
  let d : Int := (a.toNat : Int) - (b.toNat : Int) - (bin.toNat : Int)
  let r := BitVec.ofInt n d
  { r := r
    nf := r.msb
    zf := r == 0#n
    vf := (a.msb != b.msb) && (r.msb != a.msb)
    cf := decide (d < 0) }

/-- H, N, Z, V, C of an 8-bit addition (R217). -/
def AddOut.update8 (o : AddOut 8) : FlagUpdate :=
  { h := some o.hf, n := some o.nf, z := some o.zf, v := some o.vf, c := some o.cf }

/-- N, Z, V, C of a 16-bit addition; H is left (R217). -/
def AddOut.update16 (o : AddOut 16) : FlagUpdate :=
  { n := some o.nf, z := some o.zf, v := some o.vf, c := some o.cf }

/-- N, Z, V, C of a subtraction, compare or negation; H is left (R217, R253, R271). -/
def SubOut.update {n : Nat} (o : SubOut n) : FlagUpdate :=
  { n := some o.nf, z := some o.zf, v := some o.vf, c := some o.cf }

/-- N, Z, V of an 8-bit decrement: V exactly when the operand was 0x80; C and H are left (R241). -/
def decUpdate (m : Byte) : FlagUpdate :=
  { n := some (m - 1#8).msb, z := some (m - 1#8 == 0#8), v := some (m == 0x80#8) }

/-- N, Z, V of an 8-bit increment: V exactly when the operand was 0x7F; C and H are left (R241). -/
def incUpdate (m : Byte) : FlagUpdate :=
  { n := some (m + 1#8).msb, z := some (m + 1#8 == 0#8), v := some (m == 0x7F#8) }

/-- Z alone: DEX, DEY, INX, INY (R241). -/
def zUpdate (v : Word) : FlagUpdate := { z := some (v == 0#16) }

/-- N and Z from the operand, V and C cleared: TST, TSTA, TSTB (R253). -/
def tstUpdate (m : Byte) : FlagUpdate :=
  { n := some m.msb, z := some (m == 0#8), v := some false, c := some false }

/-- N = 0, Z = 1, V = 0, C = 0: CLR, CLRA, CLRB (R271). -/
def clrUpdate : FlagUpdate := { n := some false, z := some true, v := some false, c := some false }

/-- N and Z from the result, V = 0, C = 1: COM, COMA, COMB (R271). -/
def comUpdate (r : Byte) : FlagUpdate :=
  { n := some r.msb, z := some (r == 0#8), v := some false, c := some true }

/-! ## Shifts and rotates -/

/-- The result and new carry of a one-bit shift or rotate (R332). -/
structure ShiftOut (n : Nat) where
  r : BitVec n
  k : Bool
  deriving DecidableEq, Repr

/-- Shift left, bit 0 = 0, carry the top bit (R332). -/
def shiftLeft {n : Nat} (v : BitVec n) : ShiftOut n := { r := v <<< 1, k := v.msb }

/-- Logical shift right, top bit 0, carry bit 0 (R332). -/
def shiftRight {n : Nat} (v : BitVec n) : ShiftOut n := { r := v >>> 1, k := v.getLsbD 0 }

/-- Arithmetic shift right, top bit kept, carry bit 0 (R332). -/
def shiftRightArith {n : Nat} (v : BitVec n) : ShiftOut n :=
  { r := (v >>> 1) ||| (v &&& BitVec.ofNat n (2 ^ (n - 1))), k := v.getLsbD 0 }

/-- Rotate left through carry (R332). -/
def rotateLeft {n : Nat} (c : Bool) (v : BitVec n) : ShiftOut n :=
  { r := (v <<< 1) ||| BitVec.ofNat n c.toNat, k := v.msb }

/-- Rotate right through carry (R332). -/
def rotateRight {n : Nat} (c : Bool) (v : BitVec n) : ShiftOut n :=
  { r := (v >>> 1) ||| BitVec.ofNat n (c.toNat * 2 ^ (n - 1)), k := v.getLsbD 0 }

/-- `C <- k; N <- r[n-1]; Z <- (r = 0); V <- N XOR C` (R333). -/
def ShiftOut.update {n : Nat} (o : ShiftOut n) : FlagUpdate :=
  { n := some o.r.msb, z := some (o.r == 0#n), v := some (o.r.msb ^^ o.k), c := some o.k }

end Sys2Proof.Machine
end

