-- ==== Sys2Proof/Machine/Ops.lean ====
section
/-! DEFINITION. The named operations over registers and memory: D, the register file of TFR and EXG, the
memory and its checks (spec/20_memory.md R51, R52, R58, R63), the stack (R57), the free values, and the end
every instruction shares, `pc <- next` (spec/00_scope.md R13). There is no exception to take: no in-scope
instruction raises one (spec/60_exceptions.md R370). -/

namespace Sys2Proof.Machine

/-! ## Outcomes -/

/-- Why an instruction stops; nothing of its effect stands (R378). -/
inductive Stop where
  | fault (f : Fault)
  | refused (r : Refusal)
  deriving DecidableEq, Repr

/-- A stop as the outcome of a step. -/
def stopWith : Stop → Host.Outcome State Fault Refusal
  | .fault f => .fault f
  | .refused r => .refused r

/-- The end of every instruction: `pc <- next` on success, the stop otherwise (R13, R14). -/
def complete (next : Word) : Except Stop State → Host.Outcome State Fault Refusal
  | .ok s => .next { s with pc := next }
  | .error e => stopWith e

/-- `next = PC + len` modulo 2^16 (R13). -/
def State.nextPc (s : State) (len : Nat) : Word := s.pc + BitVec.ofNat 16 len

/-- Operand values the spec gives no result (R145, R296): refused by their name of R376 under `refuseUnstated`,
which holds at reset; else run by `o`, in which the unstated values are free. DESIGN CHOICE (notes/assumptions/9.md); safe. -/
def whereUnstated (r : Refusal) (s : State) (o : Host.Outcome State Fault Refusal) : Host.Outcome State Fault Refusal :=
  if s.launch.refuseUnstated then .refused r else o

/-- An instruction of `len` bytes that cannot stop. -/
def finish (len : Nat) (s t : State) : Host.Outcome State Fault Refusal := complete (s.nextPc len) (.ok t)

/-! ## Registers -/

/-- `x[D] = A : B` (R22). -/
def State.d (s : State) : Word := joinBytes s.a s.b

/-- `A <- v`. -/
def State.setA (s : State) (v : Byte) : State := { s with a := v }

/-- `B <- v`. -/
def State.setB (s : State) (v : Byte) : State := { s with b := v }

/-- `A <- v[15:8]; B <- v[7:0]` (R22). -/
def State.setD (s : State) (v : Word) : State := { s with a := hiByte v, b := loByte v }

/-- `X <- v`. -/
def State.setX (s : State) (v : Word) : State := { s with x := v }

/-- `Y <- v`. -/
def State.setY (s : State) (v : Word) : State := { s with y := v }

/-- `SP <- v`. -/
def State.setSp (s : State) (v : Word) : State := { s with sp := v }

/-- `CCRH <- (CCRH & ~CCRH_WRITE_MASK) | (v & CCRH_WRITE_MASK)` (R31). -/
def State.writeCcrh (s : State) (v : Byte) : State :=
  { s with ccrh := (s.ccrh &&& ~~~s.launch.ccrhMask) ||| (v &&& s.launch.ccrhMask) }

/-- `x[r]`, r one of A, B, CCR (R11). -/
def State.get8 (s : State) : Reg8 → Byte
  | .a => s.a
  | .b => s.b
  | .ccr => s.ccr

/-- `x[r]`, r one of D, X, Y, SP (R11). -/
def State.get16 (s : State) : Reg16 → Word
  | .d => s.d
  | .x => s.x
  | .y => s.y
  | .sp => s.sp

/-- `x[r] <- v`; a write to CCR is WriteCCR (R144, R145). -/
def State.set8 (s : State) (r : Reg8) (v : Byte) : State :=
  match r with
  | .a => s.setA v
  | .b => s.setB v
  | .ccr => s.writeCcr v

/-- `x[r] <- v`, r one of D, X, Y, SP. -/
def State.set16 (s : State) (r : Reg16) (v : Word) : State :=
  match r with
  | .d => s.setD v
  | .x => s.setX v
  | .y => s.setY v
  | .sp => s.setSp v

/-! ## Free values -/

/-- The `k`-th free value from the state's counter. -/
def State.free (s : State) (k : Nat) : Word := Config.freeWord (s.freeCount + k)

/-- `k` free values are used up. -/
def State.useFree (s : State) (k : Nat) : State := { s with freeCount := s.freeCount + k }

/-! ## Memory as data -/

/-- What an unlisted address reads as. DESIGN CHOICE (notes/assumptions/7.md); unsafe. -/
def Memory.unlisted : Byte := 0x00#8

/-- The byte at an address. -/
def Memory.read : Memory → Nat → Byte
  | [], _ => Memory.unlisted
  | (k, v) :: m, a => if a = k then v else Memory.read m a

/-- Drop every entry of an address. -/
def Memory.erase : Memory → Nat → Memory
  | [], _ => []
  | (k, v) :: m, a => if a = k then Memory.erase m a else (k, v) :: Memory.erase m a

/-- Put an entry in its place. -/
def Memory.insert : Memory → Nat → Byte → Memory
  | [], a, v => [(a, v)]
  | (k, w) :: m, a, v =>
    if a < k then (a, v) :: (k, w) :: m
    else if a = k then (a, v) :: m
    else (k, w) :: Memory.insert m a v

/-- Write a byte and keep the canonical form: the unlisted value leaves no entry. -/
def Memory.write (m : Memory) (a : Nat) (v : Byte) : Memory :=
  if v = Memory.unlisted then Memory.erase m a else Memory.insert m a v

/-- The canonical form from address `lo` on. -/
def Memory.wfFrom : Nat → Memory → Bool
  | _, [] => true
  | lo, (k, v) :: m => decide (lo ≤ k) && decide (k < 65536) && (v != Memory.unlisted) && Memory.wfFrom (k + 1) m

/-- The canonical form: addresses strictly rising and 16 bits wide, no entry with the unlisted value. -/
def Memory.wf (m : Memory) : Bool := Memory.wfFrom 0 m

/-! ## Memory with its checks -/

/-- `Admitted a` (R51). -/
def Launch.admits (l : Launch) (a : Word) : Bool :=
  l.admitted.any fun r => decide (r.lo ≤ a) && decide (a ≤ r.hi)

/-- `a` lies in `code_lo .. code_hi`, inclusive (R63). -/
def Launch.inCode (l : Launch) (a : Word) : Bool := decide (l.codeLo ≤ a) && decide (a ≤ l.codeHi)

/-- The byte at an address, without checks. -/
def State.byteAt (s : State) (a : Word) : Byte := Memory.read s.mem a.toNat

/-- The byte at an address becomes `v`, without checks. -/
def State.putByte (s : State) (a : Word) (v : Byte) : State := { s with mem := Memory.write s.mem a.toNat v }

/-- `MemRead(a, 1)`: stuck unless admitted (R51). -/
def readByte (s : State) (a : Word) : Except Stop Byte :=
  if s.launch.admits a then .ok (s.byteAt a) else .error (.fault .stuck)

/-- `MemRead(a, 2) = MemRead(a, 1) : MemRead(a + 1, 1)`, the address modulo 2^16 (R12, R52, R58). -/
def readWord (s : State) (a : Word) : Except Stop Word :=
  if s.launch.admits a && s.launch.admits (a + 1#16) then .ok (joinBytes (s.byteAt a) (s.byteAt (a + 1#16)))
  else .error (.fault .stuck)

/-- `MemWrite(a, 1, v)`: stuck unless admitted, refused in the code range, in that order (R51, R63, R374). -/
def writeByte (s : State) (a : Word) (v : Byte) : Except Stop State :=
  if s.launch.admits a then
    if s.launch.inCode a then .error (.refused .writeToCode) else .ok (s.putByte a v)
  else .error (.fault .stuck)

/-- `MemWrite(a, 2, v)`: high byte at `a`, low byte at `a + 1`; all or nothing (R12, R52, R59, R374). -/
def writeWord (s : State) (a : Word) (v : Word) : Except Stop State :=
  if s.launch.admits a && s.launch.admits (a + 1#16) then
    if s.launch.inCode a || s.launch.inCode (a + 1#16) then .error (.refused .writeToCode)
    else .ok ((s.putByte a (hiByte v)).putByte (a + 1#16) (loByte v))
  else .error (.fault .stuck)

/-! ## The stack -/

/-- Push 8 bits: `SP <- SP - 1; MemWrite(SP, 1, v)` at the new SP (R57). -/
def pushByte (s : State) (v : Byte) : Except Stop State :=
  writeByte (s.setSp (s.sp - 1#16)) (s.sp - 1#16) v

/-- Push 16 bits: `SP <- SP - 2; MemWrite(SP, 2, v)` at the new SP (R57). -/
def pushWord (s : State) (v : Word) : Except Stop State :=
  writeWord (s.setSp (s.sp - 2#16)) (s.sp - 2#16) v

/-- Pull 8 bits: `v <- MemRead(SP, 1); SP <- SP + 1`, then `f v` (R57). -/
def pullByte (s : State) (f : Byte → State → State) : Except Stop State :=
  match readByte s s.sp with
  | .ok v => .ok (f v (s.setSp (s.sp + 1#16)))
  | .error e => .error e

/-- Pull 16 bits: `v <- MemRead(SP, 2); SP <- SP + 2`, then `f v` (R57). -/
def pullWord (s : State) (f : Word → State → State) : Except Stop State :=
  match readWord s s.sp with
  | .ok v => .ok (f v (s.setSp (s.sp + 2#16)))
  | .error e => .error e

end Sys2Proof.Machine
end

