-- ==== Sys2Proof/Machine/Operands.lean ====
section
/-! DEFINITION. Every operand form: the effective address of each addressing mode (spec/30_encoding.md R81 to
R90), the sizes that give an instruction its length (R72, R91), the fetch of `opr8` and `opr16` (R80), and the
shapes of instruction that use them: load, store, read-modify-write. -/

namespace Sys2Proof.Machine

/-! ## Sizes -/

/-- Bytes of an indexed operand, the postbyte among them (R91). -/
def idxSize : Idx → Nat
  | .n5 _ _ => 1
  | .auto _ _ _ => 1
  | .n9 _ _ => 2
  | .n16 _ _ => 3
  | .acc _ _ => 1
  | .indN16 _ _ => 3
  | .indD _ => 1

/-- Operand bytes of DIR, EXT, IDX (R72). -/
def eaSize : Ea → Nat
  | .dir _ => 1
  | .ext _ => 2
  | .idx i => idxSize i

/-- Operand bytes of EXT, IDX (R72). -/
def eaXISize : EaXI → Nat
  | .ext _ => 2
  | .idx i => idxSize i

/-- Operand bytes of an 8-bit source (R72). -/
def src8Size : Src8 → Nat
  | .imm _ => 1
  | .mem ea => eaSize ea

/-- Operand bytes of a 16-bit source (R72). -/
def src16Size : Src16 → Nat
  | .imm _ => 2
  | .mem ea => eaSize ea

/-- Operand bytes of MOVB's source (R94). -/
def movSrc8Size : MovSrc8 → Nat
  | .imm _ => 1
  | .ext _ => 2
  | .idx i => idxSize i

/-- Operand bytes of MOVW's source (R94). -/
def movSrc16Size : MovSrc16 → Nat
  | .imm _ => 2
  | .ext _ => 2
  | .idx i => idxSize i

/-- Operand bytes of a move's destination (R94). -/
def movDstSize : MovDst → Nat
  | .ext _ => 2
  | .idx i => idxSize i

/-! ## Effective addresses -/

/-- The base value; PC as a base is `next` (R83). -/
def State.base (s : State) (next : Word) : Base → Word
  | .x => s.x
  | .y => s.y
  | .sp => s.sp
  | .pc => next

/-- The register an automatic mode steps (R85). -/
def State.autoBase (s : State) : AutoBase → Word
  | .x => s.x
  | .y => s.y
  | .sp => s.sp

/-- Write the register an automatic mode steps (R85). -/
def State.setAutoBase (s : State) (r : AutoBase) (v : Word) : State :=
  match r with
  | .x => s.setX v
  | .y => s.setY v
  | .sp => s.setSp v

/-- The step: `nnnn + 1` if `nnnn <= 7`, else `nnnn - 16`, as a 16-bit addend (R85). -/
def autoStep (n : BitVec 4) : Word :=
  if n.toNat ≤ 7 then BitVec.ofNat 16 (n.toNat + 1) else BitVec.ofInt 16 ((n.toNat : Int) - 16)

/-- A and B as unsigned offsets, D as 16 bits (R86). -/
def State.accOffset (s : State) : AccOffset → Word
  | .a => zext16 s.a
  | .b => zext16 s.b
  | .d => s.d

/-- The effective address of an indexed operand and the state its automatic step leaves (R84 to R90). -/
def resolveIdx (i : Idx) (next : Word) (s : State) : Except Stop (Word × State) :=
  match i with
  | .n5 r n => .ok (s.base next r + sext16 n, s)
  | .auto r post n =>
    let old := s.autoBase r
    let new := old + autoStep n
    .ok (if post then old else new, s.setAutoBase r new)
  | .n9 r n => .ok (s.base next r + sext16 n, s)
  | .n16 r n => .ok (s.base next r + n, s)
  | .acc r o => .ok (s.base next r + s.accOffset o, s)
  | .indN16 r n =>
    match readWord s (s.base next r + n) with
    | .ok p => .ok (p, s)
    | .error e => .error e
  | .indD r =>
    match readWord s (s.base next r + s.d) with
    | .ok p => .ok (p, s)
    | .error e => .error e

/-- The effective address of DIR (R81), EXT (R82), IDX (R83). -/
def resolveEa (ea : Ea) (next : Word) (s : State) : Except Stop (Word × State) :=
  match ea with
  | .dir dd => .ok (joinBytes 0x00#8 dd, s)
  | .ext a => .ok (a, s)
  | .idx i => resolveIdx i next s

/-- The effective address of EXT, IDX. -/
def resolveEaXI (ea : EaXI) (next : Word) (s : State) : Except Stop (Word × State) :=
  match ea with
  | .ext a => .ok (a, s)
  | .idx i => resolveIdx i next s

/-! ## Source operands -/

/-- `opr8` (R80). -/
def fetchSrc8 (op : Src8) (next : Word) (s : State) : Except Stop (Byte × State) :=
  match op with
  | .imm v => .ok (v, s)
  | .mem ea =>
    match resolveEa ea next s with
    | .ok (a, s1) =>
      match readByte s1 a with
      | .ok v => .ok (v, s1)
      | .error e => .error e
    | .error e => .error e

/-- `opr16` (R80). -/
def fetchSrc16 (op : Src16) (next : Word) (s : State) : Except Stop (Word × State) :=
  match op with
  | .imm v => .ok (v, s)
  | .mem ea =>
    match resolveEa ea next s with
    | .ok (a, s1) =>
      match readWord s1 a with
      | .ok v => .ok (v, s1)
      | .error e => .error e
    | .error e => .error e

/-- The source of MOVB (R94, R158). -/
def fetchMovSrc8 (src : MovSrc8) (next : Word) (s : State) : Except Stop (Byte × State) :=
  match src with
  | .imm v => .ok (v, s)
  | .ext a => fetchSrc8 (.mem (.ext a)) next s
  | .idx i => fetchSrc8 (.mem (.idx i)) next s

/-- The source of MOVW (R94, R159). -/
def fetchMovSrc16 (src : MovSrc16) (next : Word) (s : State) : Except Stop (Word × State) :=
  match src with
  | .imm v => .ok (v, s)
  | .ext a => fetchSrc16 (.mem (.ext a)) next s
  | .idx i => fetchSrc16 (.mem (.idx i)) next s

/-- The destination address of a move (R94). -/
def resolveMovDst (dst : MovDst) (next : Word) (s : State) : Except Stop (Word × State) :=
  match dst with
  | .ext a => .ok (a, s)
  | .idx i => resolveIdx i next s

/-! ## Shapes of instruction -/

/-- One opcode byte and an 8-bit source: `f opr8` (R18). -/
def withSrc8 (op : Src8) (s : State) (f : Byte → State → State) : Host.Outcome State Fault Refusal :=
  let next := s.nextPc (1 + src8Size op)
  complete next (match fetchSrc8 op next s with
    | .ok (v, s1) => .ok (f v s1)
    | .error e => .error e)

/-- One opcode byte and a 16-bit source: `f opr16` (R18). -/
def withSrc16 (op : Src16) (s : State) (f : Word → State → State) : Host.Outcome State Fault Refusal :=
  let next := s.nextPc (1 + src16Size op)
  complete next (match fetchSrc16 op next s with
    | .ok (v, s1) => .ok (f v s1)
    | .error e => .error e)

/-- Store a byte: `MemWrite(EA, 1, v)`, N and Z from `v`, V cleared (R111, R122). -/
def storeByte (ea : Ea) (v : Byte) (s : State) : Host.Outcome State Fault Refusal :=
  let next := s.nextPc (1 + eaSize ea)
  complete next (match resolveEa ea next s with
    | .ok (a, s1) =>
      match writeByte s1 a v with
      | .ok s2 => .ok (s2.setFlags (nzUpdate v))
      | .error e => .error e
    | .error e => .error e)

/-- Store a word: `MemWrite(EA, 2, v)`, N and Z from `v`, V cleared (R111, R122). -/
def storeWord (ea : Ea) (v : Word) (s : State) : Host.Outcome State Fault Refusal :=
  let next := s.nextPc (1 + eaSize ea)
  complete next (match resolveEa ea next s with
    | .ok (a, s1) =>
      match writeWord s1 a v with
      | .ok s2 => .ok (s2.setFlags (nzUpdate v))
      | .error e => .error e
    | .error e => .error e)

/-- Write a byte that does not depend on memory, with its flags: CLR (R56, R275). -/
def writeByteXI (ea : EaXI) (v : Byte) (u : FlagUpdate) (s : State) : Host.Outcome State Fault Refusal :=
  let next := s.nextPc (1 + eaXISize ea)
  complete next (match resolveEaXI ea next s with
    | .ok (a, s1) =>
      match writeByte s1 a v with
      | .ok s2 => .ok (s2.setFlags u)
      | .error e => .error e
    | .error e => .error e)

/-- Read a byte for its flags alone: TST (R260). -/
def testByteXI (ea : EaXI) (f : Byte → FlagUpdate) (s : State) : Host.Outcome State Fault Refusal :=
  let next := s.nextPc (1 + eaXISize ea)
  complete next (match resolveEaXI ea next s with
    | .ok (a, s1) =>
      match readByte s1 a with
      | .ok m => .ok (s1.setFlags (f m))
      | .error e => .error e
    | .error e => .error e)

/-- Load an index register or SP with an effective address; no memory access, no flag; an automatic or indirect
mode is refused (R97, R118). -/
def loadAddress (i : Idx) (s : State) (f : Word → State → State) : Host.Outcome State Fault Refusal :=
  let next := s.nextPc (1 + idxSize i)
  if i.leaForm then
    complete next (match resolveIdx i next s with
      | .ok (a, s1) => .ok (f a s1)
      | .error e => .error e)
  else .refused .leaForm

/-- Read, change and write one byte at one effective address; `f` gives the result and the flags (R80). -/
def modifyByte (ea : EaXI) (f : Byte → Byte × FlagUpdate) (s : State) : Host.Outcome State Fault Refusal :=
  let next := s.nextPc (1 + eaXISize ea)
  complete next (match resolveEaXI ea next s with
    | .ok (a, s1) =>
      match readByte s1 a with
      | .ok m =>
        match writeByte s1 a (f m).1 with
        | .ok s2 => .ok (s2.setFlags (f m).2)
        | .error e => .error e
      | .error e => .error e
    | .error e => .error e)

end Sys2Proof.Machine
end

