-- ==== Sys2Proof/Machine/AddSub.lean ====
section
/-! DEFINITION. Addition and subtraction: spec/43_add_sub.md. -/

namespace Sys2Proof.Machine

/-- `A <- r` with the flags of an 8-bit addition. -/
def addIntoA (v : Byte) (cin : Bool) (s : State) : State :=
  (s.setA (addN s.a v cin).r).setFlags (addN s.a v cin).update8

/-- `B <- r` with the flags of an 8-bit addition. -/
def addIntoB (v : Byte) (cin : Bool) (s : State) : State :=
  (s.setB (addN s.b v cin).r).setFlags (addN s.b v cin).update8

/-- `A <- r` with the flags of an 8-bit subtraction. -/
def subFromA (v : Byte) (bin : Bool) (s : State) : State :=
  (s.setA (subN s.a v bin).r).setFlags (subN s.a v bin).update

/-- `B <- r` with the flags of an 8-bit subtraction. -/
def subFromB (v : Byte) (bin : Bool) (s : State) : State :=
  (s.setB (subN s.b v bin).r).setFlags (subN s.b v bin).update

/-- ABA: `A <- A + B`; H, N, Z, V, C (R201). -/
def execAba (s : State) : Host.Outcome State Fault Refusal :=
  finish 2 s (addIntoA s.b false s)

/-- ABX: `X <- X + zext_16(B)`; no flag (R202). -/
def execAbx (s : State) : Host.Outcome State Fault Refusal :=
  finish 2 s (s.setX (s.x + zext16 s.b))

/-- ABY: `Y <- Y + zext_16(B)`; no flag (R203). -/
def execAby (s : State) : Host.Outcome State Fault Refusal :=
  finish 2 s (s.setY (s.y + zext16 s.b))

/-- ADCA: `A <- A + opr8 + C`; H, N, Z, V, C (R204). -/
def execAdca (op : Src8) (s : State) : Host.Outcome State Fault Refusal :=
  withSrc8 op s fun v s1 => addIntoA v s.flagC s1

/-- ADCB: `B <- B + opr8 + C`; H, N, Z, V, C (R205). -/
def execAdcb (op : Src8) (s : State) : Host.Outcome State Fault Refusal :=
  withSrc8 op s fun v s1 => addIntoB v s.flagC s1

/-- ADDA: `A <- A + opr8`; H, N, Z, V, C (R206). -/
def execAdda (op : Src8) (s : State) : Host.Outcome State Fault Refusal :=
  withSrc8 op s fun v s1 => addIntoA v false s1

/-- ADDB: `B <- B + opr8`; H, N, Z, V, C (R207). -/
def execAddb (op : Src8) (s : State) : Host.Outcome State Fault Refusal :=
  withSrc8 op s fun v s1 => addIntoB v false s1

/-- ADDD: `D <- D + opr16`; N, Z, V, C, H left (R208). -/
def execAddd (op : Src16) (s : State) : Host.Outcome State Fault Refusal :=
  withSrc16 op s fun v s1 => (s1.setD (addN s1.d v false).r).setFlags (addN s1.d v false).update16

/-- SBA: `A <- A - B`; N, Z, V, C (R210). -/
def execSba (s : State) : Host.Outcome State Fault Refusal :=
  finish 2 s (subFromA s.b false s)

/-- SBCA: `A <- A - opr8 - C`; N, Z, V, C (R211). -/
def execSbca (op : Src8) (s : State) : Host.Outcome State Fault Refusal :=
  withSrc8 op s fun v s1 => subFromA v s.flagC s1

/-- SBCB: `B <- B - opr8 - C`; N, Z, V, C (R212). -/
def execSbcb (op : Src8) (s : State) : Host.Outcome State Fault Refusal :=
  withSrc8 op s fun v s1 => subFromB v s.flagC s1

/-- SUBA: `A <- A - opr8`; N, Z, V, C (R213). -/
def execSuba (op : Src8) (s : State) : Host.Outcome State Fault Refusal :=
  withSrc8 op s fun v s1 => subFromA v false s1

/-- SUBB: `B <- B - opr8`; N, Z, V, C (R214). -/
def execSubb (op : Src8) (s : State) : Host.Outcome State Fault Refusal :=
  withSrc8 op s fun v s1 => subFromB v false s1

/-- SUBD: `D <- D - opr16`; N, Z, V, C (R215). -/
def execSubd (op : Src16) (s : State) : Host.Outcome State Fault Refusal :=
  withSrc16 op s fun v s1 => (s1.setD (subN s1.d v false).r).setFlags (subN s1.d v false).update

end Sys2Proof.Machine
end

