-- ==== Sys2Proof/Machine/ClearComNeg.lean ====
section
/-! DEFINITION. Clear, complement and negate: spec/46_clear_com_neg.md. -/

namespace Sys2Proof.Machine

/-- CLC: `C <- 0`; every other bit left (R272). -/
def execClc (s : State) : Host.Outcome State Fault Refusal :=
  finish 2 s (s.setFlags { c := some false })

/-- CLI: `I <- 0`; every other bit left (R273). -/
def execCli (s : State) : Host.Outcome State Fault Refusal :=
  finish 2 s (s.setFlags { i := some false })

/-- CLV: `V <- 0`; every other bit left (R274). -/
def execClv (s : State) : Host.Outcome State Fault Refusal :=
  finish 2 s (s.setFlags { v := some false })

/-- CLR: the byte becomes 0, without being read; N = 0, Z = 1, V = 0, C = 0 (R275). -/
def execClr (ea : EaXI) (s : State) : Host.Outcome State Fault Refusal :=
  writeByteXI ea 0x00#8 clrUpdate s

/-- CLRA: `A <- 0`; N = 0, Z = 1, V = 0, C = 0 (R276). -/
def execClra (s : State) : Host.Outcome State Fault Refusal :=
  finish 1 s ((s.setA 0x00#8).setFlags clrUpdate)

/-- CLRB: `B <- 0`; N = 0, Z = 1, V = 0, C = 0 (R277). -/
def execClrb (s : State) : Host.Outcome State Fault Refusal :=
  finish 1 s ((s.setB 0x00#8).setFlags clrUpdate)

/-- COM: the byte XOR 0xFF; N, Z, V = 0, C = 1 (R278). -/
def execCom (ea : EaXI) (s : State) : Host.Outcome State Fault Refusal :=
  modifyByte ea (fun m => (m ^^^ 0xFF#8, comUpdate (m ^^^ 0xFF#8))) s

/-- COMA: `A <- A XOR 0xFF`; N, Z, V = 0, C = 1 (R279). -/
def execComa (s : State) : Host.Outcome State Fault Refusal :=
  finish 1 s ((s.setA (s.a ^^^ 0xFF#8)).setFlags (comUpdate (s.a ^^^ 0xFF#8)))

/-- COMB: `B <- B XOR 0xFF`; N, Z, V = 0, C = 1 (R280). -/
def execComb (s : State) : Host.Outcome State Fault Refusal :=
  finish 1 s ((s.setB (s.b ^^^ 0xFF#8)).setFlags (comUpdate (s.b ^^^ 0xFF#8)))

/-- NEG: 0 minus the byte; N, Z, V, C (R281). -/
def execNeg (ea : EaXI) (s : State) : Host.Outcome State Fault Refusal :=
  modifyByte ea (fun m => ((subN 0x00#8 m false).r, (subN 0x00#8 m false).update)) s

/-- NEGA: `A <- 0 - A`; N, Z, V, C (R282). -/
def execNega (s : State) : Host.Outcome State Fault Refusal :=
  finish 1 s ((s.setA (subN 0x00#8 s.a false).r).setFlags (subN 0x00#8 s.a false).update)

/-- NEGB: `B <- 0 - B`; N, Z, V, C (R283). -/
def execNegb (s : State) : Host.Outcome State Fault Refusal :=
  finish 1 s ((s.setB (subN 0x00#8 s.b false).r).setFlags (subN 0x00#8 s.b false).update)

end Sys2Proof.Machine
end

