-- ==== Sys2Proof/Machine/CompareTest.lean ====
section
/-! DEFINITION. Compare and test: spec/45_compare_test.md. -/

namespace Sys2Proof.Machine

/-- CBA: N, Z, V, C of `A - B` (R254). -/
def execCba (s : State) : Host.Outcome State Fault Refusal :=
  finish 2 s (s.setFlags (subN s.a s.b false).update)

/-- CMPA: N, Z, V, C of `A - opr8` (R255). -/
def execCmpa (op : Src8) (s : State) : Host.Outcome State Fault Refusal :=
  withSrc8 op s fun v s1 => s1.setFlags (subN s1.a v false).update

/-- CMPB: N, Z, V, C of `B - opr8` (R256). -/
def execCmpb (op : Src8) (s : State) : Host.Outcome State Fault Refusal :=
  withSrc8 op s fun v s1 => s1.setFlags (subN s1.b v false).update

/-- CPD: N, Z, V, C of `D - opr16` (R257). -/
def execCpd (op : Src16) (s : State) : Host.Outcome State Fault Refusal :=
  withSrc16 op s fun v s1 => s1.setFlags (subN s1.d v false).update

/-- CPX: N, Z, V, C of `X - opr16`; refused where the operand steps X (R258, R96). -/
def execCpx (op : Src16) (s : State) : Host.Outcome State Fault Refusal :=
  if op.stepsBase .x then .refused .baseIsOperand
  else withSrc16 op s fun v s1 => s1.setFlags (subN s1.x v false).update

/-- CPY: N, Z, V, C of `Y - opr16`; refused where the operand steps Y (R259, R96). -/
def execCpy (op : Src16) (s : State) : Host.Outcome State Fault Refusal :=
  if op.stepsBase .y then .refused .baseIsOperand
  else withSrc16 op s fun v s1 => s1.setFlags (subN s1.y v false).update

/-- TST: N, Z from the byte, V and C cleared (R260). -/
def execTst (ea : EaXI) (s : State) : Host.Outcome State Fault Refusal :=
  testByteXI ea tstUpdate s

/-- TSTA: N, Z from A, V and C cleared (R261). -/
def execTsta (s : State) : Host.Outcome State Fault Refusal :=
  finish 1 s (s.setFlags (tstUpdate s.a))

/-- TSTB: N, Z from B, V and C cleared (R262). -/
def execTstb (s : State) : Host.Outcome State Fault Refusal :=
  finish 1 s (s.setFlags (tstUpdate s.b))

end Sys2Proof.Machine
end

