-- ==== Sys2Proof/Machine/IncDec.lean ====
section
/-! DEFINITION. Decrement and increment: spec/44_inc_dec.md. -/

namespace Sys2Proof.Machine

/-- DEC: the byte minus 1; N, Z, V, C left (R231). -/
def execDec (ea : EaXI) (s : State) : Host.Outcome State Fault Refusal :=
  modifyByte ea (fun m => (m - 1#8, decUpdate m)) s

/-- DECA: `A <- A - 1`; N, Z, V, C left (R232). -/
def execDeca (s : State) : Host.Outcome State Fault Refusal :=
  finish 1 s ((s.setA (s.a - 1#8)).setFlags (decUpdate s.a))

/-- DECB: `B <- B - 1`; N, Z, V, C left (R233). -/
def execDecb (s : State) : Host.Outcome State Fault Refusal :=
  finish 1 s ((s.setB (s.b - 1#8)).setFlags (decUpdate s.b))

/-- DEX: `X <- X - 1`; Z alone (R234). -/
def execDex (s : State) : Host.Outcome State Fault Refusal :=
  finish 1 s ((s.setX (s.x - 1#16)).setFlags (zUpdate (s.x - 1#16)))

/-- DEY: `Y <- Y - 1`; Z alone (R235). -/
def execDey (s : State) : Host.Outcome State Fault Refusal :=
  finish 1 s ((s.setY (s.y - 1#16)).setFlags (zUpdate (s.y - 1#16)))

/-- INC: the byte plus 1; N, Z, V, C left (R236). -/
def execInc (ea : EaXI) (s : State) : Host.Outcome State Fault Refusal :=
  modifyByte ea (fun m => (m + 1#8, incUpdate m)) s

/-- INCA: `A <- A + 1`; N, Z, V, C left (R237). -/
def execInca (s : State) : Host.Outcome State Fault Refusal :=
  finish 1 s ((s.setA (s.a + 1#8)).setFlags (incUpdate s.a))

/-- INCB: `B <- B + 1`; N, Z, V, C left (R238). -/
def execIncb (s : State) : Host.Outcome State Fault Refusal :=
  finish 1 s ((s.setB (s.b + 1#8)).setFlags (incUpdate s.b))

/-- INX: `X <- X + 1`; Z alone (R239). -/
def execInx (s : State) : Host.Outcome State Fault Refusal :=
  finish 1 s ((s.setX (s.x + 1#16)).setFlags (zUpdate (s.x + 1#16)))

/-- INY: `Y <- Y + 1`; Z alone (R240). -/
def execIny (s : State) : Host.Outcome State Fault Refusal :=
  finish 1 s ((s.setY (s.y + 1#16)).setFlags (zUpdate (s.y + 1#16)))

end Sys2Proof.Machine
end

