-- ==== Sys2Proof/Machine/LoadStore.lean ====
section
/-! DEFINITION. Loads, stores and load effective address: spec/40_load_store_lea.md. -/

namespace Sys2Proof.Machine

/-- LDAA: `A <- opr8`; N, Z from the byte, V cleared (R112). -/
def execLdaa (op : Src8) (s : State) : Host.Outcome State Fault Refusal :=
  withSrc8 op s fun v s1 => (s1.setA v).setFlags (nzUpdate v)

/-- LDAB: `B <- opr8`; N, Z from the byte, V cleared (R113). -/
def execLdab (op : Src8) (s : State) : Host.Outcome State Fault Refusal :=
  withSrc8 op s fun v s1 => (s1.setB v).setFlags (nzUpdate v)

/-- LDD: `D <- opr16`; N, Z from the word, V cleared (R114). -/
def execLdd (op : Src16) (s : State) : Host.Outcome State Fault Refusal :=
  withSrc16 op s fun v s1 => (s1.setD v).setFlags (nzUpdate v)

/-- LDS: `SP <- opr16`; N, Z from the word, V cleared; refused where the operand steps SP (R115, R96). -/
def execLds (op : Src16) (s : State) : Host.Outcome State Fault Refusal :=
  if op.stepsBase .sp then .refused .baseIsOperand
  else withSrc16 op s fun v s1 => (s1.setSp v).setFlags (nzUpdate v)

/-- LDX: `X <- opr16`; N, Z from the word, V cleared; refused where the operand steps X (R116, R96). -/
def execLdx (op : Src16) (s : State) : Host.Outcome State Fault Refusal :=
  if op.stepsBase .x then .refused .baseIsOperand
  else withSrc16 op s fun v s1 => (s1.setX v).setFlags (nzUpdate v)

/-- LDY: `Y <- opr16`; N, Z from the word, V cleared; refused where the operand steps Y (R117, R96). -/
def execLdy (op : Src16) (s : State) : Host.Outcome State Fault Refusal :=
  if op.stepsBase .y then .refused .baseIsOperand
  else withSrc16 op s fun v s1 => (s1.setY v).setFlags (nzUpdate v)

/-- LEAS: `SP <- EA`; no flag; the postbytes of R97 only (R119). -/
def execLeas (i : Idx) (s : State) : Host.Outcome State Fault Refusal :=
  loadAddress i s fun a s1 => s1.setSp a

/-- LEAX: `X <- EA`; no flag; the postbytes of R97 only (R120). -/
def execLeax (i : Idx) (s : State) : Host.Outcome State Fault Refusal :=
  loadAddress i s fun a s1 => s1.setX a

/-- LEAY: `Y <- EA`; no flag; the postbytes of R97 only (R121). -/
def execLeay (i : Idx) (s : State) : Host.Outcome State Fault Refusal :=
  loadAddress i s fun a s1 => s1.setY a

/-- STAA: `MemWrite(EA, 1, A)`; N, Z from A, V cleared (R123). -/
def execStaa (ea : Ea) (s : State) : Host.Outcome State Fault Refusal :=
  storeByte ea s.a s

/-- STAB: `MemWrite(EA, 1, B)`; N, Z from B, V cleared (R124). -/
def execStab (ea : Ea) (s : State) : Host.Outcome State Fault Refusal :=
  storeByte ea s.b s

/-- STD: `MemWrite(EA, 2, A : B)`; N, Z from D, V cleared (R125). -/
def execStd (ea : Ea) (s : State) : Host.Outcome State Fault Refusal :=
  storeWord ea s.d s

/-- STS: `MemWrite(EA, 2, SP)`; N, Z from SP, V cleared; refused where the operand steps SP (R126, R96). -/
def execSts (ea : Ea) (s : State) : Host.Outcome State Fault Refusal :=
  if ea.stepsBase .sp then .refused .baseIsOperand
  else storeWord ea s.sp s

/-- STX: `MemWrite(EA, 2, X)`; N, Z from X, V cleared; refused where the operand steps X (R127, R96). -/
def execStx (ea : Ea) (s : State) : Host.Outcome State Fault Refusal :=
  if ea.stepsBase .x then .refused .baseIsOperand
  else storeWord ea s.x s

/-- STY: `MemWrite(EA, 2, Y)`; N, Z from Y, V cleared; refused where the operand steps Y (R128, R96). -/
def execSty (ea : Ea) (s : State) : Host.Outcome State Fault Refusal :=
  if ea.stepsBase .y then .refused .baseIsOperand
  else storeWord ea s.y s

end Sys2Proof.Machine
end

