-- ==== Sys2Proof/Machine/Logic.lean ====
section
/-! DEFINITION. Logic: spec/48_logic.md. -/

namespace Sys2Proof.Machine

/-- ANDA: `A <- A AND opr8`; N, Z from the result, V cleared (R313). -/
def execAnda (op : Src8) (s : State) : Host.Outcome State Fault Refusal :=
  withSrc8 op s fun v s1 => (s1.setA (s1.a &&& v)).setFlags (nzUpdate (s1.a &&& v))

/-- ANDB: `B <- B AND opr8`; N, Z from the result, V cleared (R314). -/
def execAndb (op : Src8) (s : State) : Host.Outcome State Fault Refusal :=
  withSrc8 op s fun v s1 => (s1.setB (s1.b &&& v)).setFlags (nzUpdate (s1.b &&& v))

/-- EORA: `A <- A XOR opr8`; N, Z from the result, V cleared (R316). -/
def execEora (op : Src8) (s : State) : Host.Outcome State Fault Refusal :=
  withSrc8 op s fun v s1 => (s1.setA (s1.a ^^^ v)).setFlags (nzUpdate (s1.a ^^^ v))

/-- EORB: `B <- B XOR opr8`; N, Z from the result, V cleared (R317). -/
def execEorb (op : Src8) (s : State) : Host.Outcome State Fault Refusal :=
  withSrc8 op s fun v s1 => (s1.setB (s1.b ^^^ v)).setFlags (nzUpdate (s1.b ^^^ v))

/-- ORAA: `A <- A OR opr8`; N, Z from the result, V cleared (R318). -/
def execOraa (op : Src8) (s : State) : Host.Outcome State Fault Refusal :=
  withSrc8 op s fun v s1 => (s1.setA (s1.a ||| v)).setFlags (nzUpdate (s1.a ||| v))

/-- ORAB: `B <- B OR opr8`; N, Z from the result, V cleared (R319). -/
def execOrab (op : Src8) (s : State) : Host.Outcome State Fault Refusal :=
  withSrc8 op s fun v s1 => (s1.setB (s1.b ||| v)).setFlags (nzUpdate (s1.b ||| v))

/-- ANDCC: `CCR <- CCR AND ii` (R315). -/
def execAndcc (ii : Byte) (s : State) : Host.Outcome State Fault Refusal :=
  finish 2 s { s with ccr := s.ccr &&& ii }

/-- ORCC: `WriteCCR(CCR OR ii)` (R320). -/
def execOrcc (ii : Byte) (s : State) : Host.Outcome State Fault Refusal :=
  finish 2 s (s.writeCcr (s.ccr ||| ii))

end Sys2Proof.Machine
end

