-- ==== Sys2Proof/Machine/MulDiv.lean ====
section
/-! DEFINITION. Multiplication and division: spec/47_mul_div.md. A divide has three ends: the stated quotient
and remainder; a zero divisor; a quotient that does not fit (R296). For the last two the spec states no
register contents: they are refused by their name under `launch.refuseUnstated`, the spec's rule and the value at
reset, and otherwise complete as R296 says the hardware does, with C = 1 (zero divisor) or V = 1 (overflow) and free values.
DESIGN CHOICE (notes/assumptions/9.md); safe. That these flags are so is DEDUCED (notes/assumptions/12.md);
unsafe. -/

namespace Sys2Proof.Machine

/-! ## Multiplication -/

/-- The flags of EMUL and EMULS: `N <- p[31]; Z <- (p = 0); C <- p[15]` (R295). -/
def productUpdate (p : BitVec 32) : FlagUpdate :=
  { n := some p.msb, z := some (p == 0#32), c := some (p.getLsbD 15) }

/-- `Y <- p[31:16]; D <- p[15:0]` with the flags of R295. -/
def storeProduct (p : BitVec 32) (s : State) : State :=
  ((s.setY (p.extractLsb' 16 16)).setD (p.extractLsb' 0 16)).setFlags (productUpdate p)

/-- EMUL: `Y : D <- unsigned(D) * unsigned(Y)`; N, Z, C (R297). -/
def execEmul (s : State) : Host.Outcome State Fault Refusal :=
  finish 1 s (storeProduct (BitVec.ofNat 32 (s.d.toNat * s.y.toNat)) s)

/-- EMULS: `Y : D <- signed(D) * signed(Y)`; N, Z, C (R298). -/
def execEmuls (s : State) : Host.Outcome State Fault Refusal :=
  finish 2 s (storeProduct (BitVec.ofInt 32 (s.d.toInt * s.y.toInt)) s)

/-- MUL: `A : B <- unsigned(A) * unsigned(B)`; C is bit 7 of the product (R299). -/
def execMul (s : State) : Host.Outcome State Fault Refusal :=
  let p := BitVec.ofNat 16 (s.a.toNat * s.b.toNat)
  finish 1 s ((s.setD p).setFlags { c := some (p.getLsbD 7) })

/-! ## Division -/

/-- How a divide ends (R296). -/
inductive Quotient where
  /-- The stated quotient and remainder. -/
  | result (q r : Word)
  /-- The divisor is zero. -/
  | byZero
  /-- The quotient does not fit, or FDIV's dividend is not less than its divisor. -/
  | overflow
  deriving DecidableEq, Repr

/-- Unsigned division of `n` by `d`, the quotient in 16 bits; the zero divisor is tested first (R296, R300). -/
def divideUnsigned (n d : Nat) : Quotient :=
  if d = 0 then .byZero
  else if 65536 ≤ n / d then .overflow
  else .result (BitVec.ofNat 16 (n / d)) (BitVec.ofNat 16 (n % d))

/-- Signed division rounding toward zero, the remainder with the dividend's sign (R293, R296). -/
def divideSigned (n d : Int) : Quotient :=
  if d = 0 then .byZero
  else if Int.tdiv n d < -32768 ∨ 32767 < Int.tdiv n d then .overflow
  else .result (BitVec.ofInt 16 (Int.tdiv n d)) (BitVec.ofInt 16 (Int.tmod n d))

/-- `Y : D` as a natural number. -/
def State.ydNat (s : State) : Nat := s.y.toNat * 65536 + s.d.toNat

/-- `Y : D` as a two's-complement integer. -/
def State.ydInt (s : State) : Int := (s.y ++ s.d : BitVec 32).toInt

/-- The quotient's register: X for the 16-bit dividends, Y for the 32-bit ones (R292). -/
inductive QuotientReg where
  | x
  | y
  deriving DecidableEq, Repr

/-- Write the quotient to its register. -/
def State.setQuotient (s : State) (dst : QuotientReg) (q : Word) : State :=
  match dst with
  | .x => s.setX q
  | .y => s.setY q

/-- The condition codes of a divide by their rows of R29 and R295. -/
inductive DivideKind where
  /-- EDIV, EDIVS, IDIVS: N, Z, V, C. -/
  | long
  /-- FDIV: Z, V, C. -/
  | fractional
  /-- IDIV: Z, C, and V always cleared. -/
  | integer
  deriving DecidableEq, Repr

/-- Whether N is written (R29). -/
def DivideKind.writesN : DivideKind → Bool
  | .long => true
  | .fractional => false
  | .integer => false

/-- The flags of a divide that completes with its stated result: N where written, Z from the quotient, V = 0,
C = 0 (R295). -/
def quotientUpdate (k : DivideKind) (q : Word) : FlagUpdate :=
  { n := if k.writesN then some q.msb else none, z := some (q == 0#16), v := some false, c := some false }

/-- The flags of a division by zero with the free quotient `q`: C = 1 (R296). EDIV, EDIVS, IDIVS leave N, Z and V
undefined, here from the free value `w`; FDIV sets V, its divisor being no greater than its dividend, and IDIV clears
it; these two take Z from the quotient (R29, R295). -/
def zeroDivisorUpdate (k : DivideKind) (q w : Word) : FlagUpdate :=
  match k with
  | .long => { n := some (w.getLsbD 3), z := some (w.getLsbD 2), v := some (w.getLsbD 1), c := some true }
  | .fractional => { z := some (q == 0#16), v := some true, c := some true }
  | .integer => { z := some (q == 0#16), v := some false, c := some true }

/-- The flags of an overflowing divide: V = 1, C = 0, the others the divide writes free (R29, R296). -/
def overflowUpdate (k : DivideKind) (w : Word) : FlagUpdate :=
  { n := if k.writesN then some (w.getLsbD 3) else none
    z := some (w.getLsbD 2)
    v := some true
    c := some false }

/-- Quotient and D take free values (R296). -/
def freeQuotient (dst : QuotientReg) (s : State) : State :=
  ((s.setQuotient dst (s.free 0)).setD (s.free 1)).useFree 3

/-- The end of a divide of `len` bytes with its quotient in `dst`. -/
def divide (len : Nat) (dst : QuotientReg) (k : DivideKind) (o : Quotient) (s : State) :
    Host.Outcome State Fault Refusal :=
  match o with
  | .result q r => finish len s (((s.setQuotient dst q).setD r).setFlags (quotientUpdate k q))
  | .byZero =>
    whereUnstated .divideByZero s
      (finish len s ((freeQuotient dst s).setFlags (zeroDivisorUpdate k (s.free 0) (s.free 2))))
  | .overflow =>
    whereUnstated .divideOverflow s
      (finish len s ((freeQuotient dst s).setFlags (overflowUpdate k (s.free 2))))

/-- EDIV: `Y : D` by X unsigned, quotient to Y, remainder to D; N, Z, V, C (R300). -/
def execEdiv (s : State) : Host.Outcome State Fault Refusal :=
  divide 1 .y .long (divideUnsigned s.ydNat s.x.toNat) s

/-- EDIVS: `Y : D` by X signed, quotient to Y, remainder to D; N, Z, V, C (R301). -/
def execEdivs (s : State) : Host.Outcome State Fault Refusal :=
  divide 2 .y .long (divideSigned s.ydInt s.x.toInt) s

/-- FDIV: D times 2^16 by X unsigned, quotient to X, remainder to D; Z, V, C, N left (R302, R294). -/
def execFdiv (s : State) : Host.Outcome State Fault Refusal :=
  divide 2 .x .fractional (divideUnsigned (s.d.toNat * 65536) s.x.toNat) s

/-- IDIV: D by X unsigned, quotient to X, remainder to D; Z, V = 0, C, N left (R303). -/
def execIdiv (s : State) : Host.Outcome State Fault Refusal :=
  divide 2 .x .integer (divideUnsigned s.d.toNat s.x.toNat) s

/-- IDIVS: D by X signed, quotient to X, remainder to D; N, Z, V, C (R304). -/
def execIdivs (s : State) : Host.Outcome State Fault Refusal :=
  divide 2 .x .long (divideSigned s.d.toInt s.x.toInt) s

end Sys2Proof.Machine
end

