-- ==== Sys2Proof/Machine/Shift.lean ====
section
/-! DEFINITION. Shifts and rotates by one bit: spec/49_shift_rotate.md. -/

namespace Sys2Proof.Machine

/-- `A <- r` with the flags of a shift. -/
def shiftIntoA (o : ShiftOut 8) (s : State) : State := (s.setA o.r).setFlags o.update

/-- `B <- r` with the flags of a shift. -/
def shiftIntoB (o : ShiftOut 8) (s : State) : State := (s.setB o.r).setFlags o.update

/-- `D <- r` with the flags of a shift. -/
def shiftIntoD (o : ShiftOut 16) (s : State) : State := (s.setD o.r).setFlags o.update

/-- A shift of a memory byte with its flags. -/
def shiftMemory (ea : EaXI) (f : Byte → ShiftOut 8) (s : State) : Host.Outcome State Fault Refusal :=
  modifyByte ea (fun m => ((f m).r, (f m).update)) s

/-- LSL: shift left, the instruction ASL under its second name (R334) of a memory byte (R336). -/
def execLsl (ea : EaXI) (s : State) : Host.Outcome State Fault Refusal :=
  shiftMemory ea shiftLeft s

/-- LSLA: shift left, the instruction ASL under its second name (R334) of A (R337). -/
def execLsla (s : State) : Host.Outcome State Fault Refusal :=
  finish 1 s (shiftIntoA (shiftLeft s.a) s)

/-- LSLB: shift left, the instruction ASL under its second name (R334) of B (R338). -/
def execLslb (s : State) : Host.Outcome State Fault Refusal :=
  finish 1 s (shiftIntoB (shiftLeft s.b) s)

/-- LSLD: shift left, the instruction ASL under its second name (R334) of D (R339). -/
def execLsld (s : State) : Host.Outcome State Fault Refusal :=
  finish 1 s (shiftIntoD (shiftLeft s.d) s)

/-- LSR: logical shift right of a memory byte (R340). -/
def execLsr (ea : EaXI) (s : State) : Host.Outcome State Fault Refusal :=
  shiftMemory ea shiftRight s

/-- LSRA: logical shift right of A (R341). -/
def execLsra (s : State) : Host.Outcome State Fault Refusal :=
  finish 1 s (shiftIntoA (shiftRight s.a) s)

/-- LSRB: logical shift right of B (R342). -/
def execLsrb (s : State) : Host.Outcome State Fault Refusal :=
  finish 1 s (shiftIntoB (shiftRight s.b) s)

/-- LSRD: logical shift right of D (R343). -/
def execLsrd (s : State) : Host.Outcome State Fault Refusal :=
  finish 1 s (shiftIntoD (shiftRight s.d) s)

/-- ASL: shift left of a memory byte (R344). -/
def execAsl (ea : EaXI) (s : State) : Host.Outcome State Fault Refusal :=
  shiftMemory ea shiftLeft s

/-- ASLA: shift left of A (R345). -/
def execAsla (s : State) : Host.Outcome State Fault Refusal :=
  finish 1 s (shiftIntoA (shiftLeft s.a) s)

/-- ASLB: shift left of B (R346). -/
def execAslb (s : State) : Host.Outcome State Fault Refusal :=
  finish 1 s (shiftIntoB (shiftLeft s.b) s)

/-- ASLD: shift left of D (R347). -/
def execAsld (s : State) : Host.Outcome State Fault Refusal :=
  finish 1 s (shiftIntoD (shiftLeft s.d) s)

/-- ASR: arithmetic shift right, the top bit kept of a memory byte (R348). -/
def execAsr (ea : EaXI) (s : State) : Host.Outcome State Fault Refusal :=
  shiftMemory ea shiftRightArith s

/-- ASRA: arithmetic shift right, the top bit kept of A (R349). -/
def execAsra (s : State) : Host.Outcome State Fault Refusal :=
  finish 1 s (shiftIntoA (shiftRightArith s.a) s)

/-- ASRB: arithmetic shift right, the top bit kept of B (R350). -/
def execAsrb (s : State) : Host.Outcome State Fault Refusal :=
  finish 1 s (shiftIntoB (shiftRightArith s.b) s)

/-- ROL: rotate left through carry of a memory byte (R351). -/
def execRol (ea : EaXI) (s : State) : Host.Outcome State Fault Refusal :=
  shiftMemory ea (rotateLeft s.flagC) s

/-- ROLA: rotate left through carry of A (R352). -/
def execRola (s : State) : Host.Outcome State Fault Refusal :=
  finish 1 s (shiftIntoA (rotateLeft s.flagC s.a) s)

/-- ROLB: rotate left through carry of B (R353). -/
def execRolb (s : State) : Host.Outcome State Fault Refusal :=
  finish 1 s (shiftIntoB (rotateLeft s.flagC s.b) s)

/-- ROR: rotate right through carry of a memory byte (R354). -/
def execRor (ea : EaXI) (s : State) : Host.Outcome State Fault Refusal :=
  shiftMemory ea (rotateRight s.flagC) s

/-- RORA: rotate right through carry of A (R355). -/
def execRora (s : State) : Host.Outcome State Fault Refusal :=
  finish 1 s (shiftIntoA (rotateRight s.flagC s.a) s)

/-- RORB: rotate right through carry of B (R356). -/
def execRorb (s : State) : Host.Outcome State Fault Refusal :=
  finish 1 s (shiftIntoB (rotateRight s.flagC s.b) s)

end Sys2Proof.Machine
end

