-- ==== Sys2Proof/Machine/Stack.lean ====
section
/-! DEFINITION. The stack pointer and the stack: spec/42_stack.md. -/

namespace Sys2Proof.Machine

/-- DES: `SP <- SP - 1`; no flag (R171). -/
def execDes (s : State) : Host.Outcome State Fault Refusal :=
  finish 2 s (s.setSp (s.sp - 1#16))

/-- INS: `SP <- SP + 1`; no flag (R172). -/
def execIns (s : State) : Host.Outcome State Fault Refusal :=
  finish 2 s (s.setSp (s.sp + 1#16))

/-- CPS: N, Z, V, C of `SP - opr16`; refused where the operand steps SP (R173, R96). -/
def execCps (op : Src16) (s : State) : Host.Outcome State Fault Refusal :=
  if op.stepsBase .sp then .refused .baseIsOperand
  else withSrc16 op s fun v s1 => s1.setFlags (subN s1.sp v false).update

/-- PSHA: push A; no flag (R176). -/
def execPsha (s : State) : Host.Outcome State Fault Refusal :=
  complete (s.nextPc 1) (pushByte s s.a)

/-- PSHB: push B; no flag (R177). -/
def execPshb (s : State) : Host.Outcome State Fault Refusal :=
  complete (s.nextPc 1) (pushByte s s.b)

/-- PSHC: push CCR; no flag (R178). -/
def execPshc (s : State) : Host.Outcome State Fault Refusal :=
  complete (s.nextPc 1) (pushByte s s.ccr)

/-- PSHCW: push `CCRH : CCR`; no flag (R179). -/
def execPshcw (s : State) : Host.Outcome State Fault Refusal :=
  complete (s.nextPc 2) (pushWord s (joinBytes s.ccrh s.ccr))

/-- PSHD: push D; no flag (R180). -/
def execPshd (s : State) : Host.Outcome State Fault Refusal :=
  complete (s.nextPc 1) (pushWord s s.d)

/-- PSHX: push X; no flag (R181). -/
def execPshx (s : State) : Host.Outcome State Fault Refusal :=
  complete (s.nextPc 1) (pushWord s s.x)

/-- PSHY: push Y; no flag (R182). -/
def execPshy (s : State) : Host.Outcome State Fault Refusal :=
  complete (s.nextPc 1) (pushWord s s.y)

/-- PULA: pull A; no flag (R183). -/
def execPula (s : State) : Host.Outcome State Fault Refusal :=
  complete (s.nextPc 1) (pullByte s fun v s1 => s1.setA v)

/-- PULB: pull B; no flag (R184). -/
def execPulb (s : State) : Host.Outcome State Fault Refusal :=
  complete (s.nextPc 1) (pullByte s fun v s1 => s1.setB v)

/-- PULC: pull CCR, through WriteCCR (R185). -/
def execPulc (s : State) : Host.Outcome State Fault Refusal :=
  complete (s.nextPc 1) (pullByte s fun v s1 => s1.writeCcr v)

/-- PULCW: pull `CCRH : CCR`, CCRH under its write mask, CCR through WriteCCR (R186). -/
def execPulcw (s : State) : Host.Outcome State Fault Refusal :=
  complete (s.nextPc 2) (pullWord s fun v s1 => (s1.writeCcrh (hiByte v)).writeCcr (loByte v))

/-- PULD: pull D; no flag (R187). -/
def execPuld (s : State) : Host.Outcome State Fault Refusal :=
  complete (s.nextPc 1) (pullWord s fun v s1 => s1.setD v)

/-- PULX: pull X; no flag (R188). -/
def execPulx (s : State) : Host.Outcome State Fault Refusal :=
  complete (s.nextPc 1) (pullWord s fun v s1 => s1.setX v)

/-- PULY: pull Y; no flag (R189). -/
def execPuly (s : State) : Host.Outcome State Fault Refusal :=
  complete (s.nextPc 1) (pullWord s fun v s1 => s1.setY v)

end Sys2Proof.Machine
end

