-- ==== Sys2Proof/Machine/Transfer.lean ====
section
/-! DEFINITION. Register transfers, exchanges, sign extension and moves: spec/41_transfer_exchange_move.md. -/

namespace Sys2Proof.Machine

/-- The transfer of TFR and SEX by the widths of its registers: same width as is, 8 to 16 sign-extended, 16 to 8
the low byte (R144). -/
def transfer (r1 r2 : Reg) (s : State) : State :=
  match r1, r2 with
  | .r8 p, .r8 q => s.set8 q (s.get8 p)
  | .r8 p, .r16 q => s.set16 q (sext16 (s.get8 p))
  | .r16 p, .r8 q => s.set8 q (loByte (s.get16 p))
  | .r16 p, .r16 q => s.set16 q (s.get16 p)

/-- An exchange of an 8-bit with a 16-bit register, which the spec gives no result: refused by its name under
`refuseUnstated`, else both registers take free values (R145). DESIGN CHOICE (notes/assumptions/10.md); safe. -/
def mixedExchange (p : Reg8) (q : Reg16) (s : State) : Host.Outcome State Fault Refusal :=
  whereUnstated .mixedSizeExchange s (finish 2 s (((s.set8 p (loByte (s.free 0))).set16 q (s.free 1)).useFree 2))

/-- TFR: the source's value, in the destination's width, to the destination (R144). -/
def execTfr (r1 r2 : Reg) (s : State) : Host.Outcome State Fault Refusal :=
  finish 2 s (transfer r1 r2 s)

/-- EXG: both registers are read before either is written; a write to CCR is WriteCCR (R145). -/
def execExg (r1 r2 : Reg) (s : State) : Host.Outcome State Fault Refusal :=
  match r1, r2 with
  | .r8 p, .r8 q => finish 2 s ((s.set8 p (s.get8 q)).set8 q (s.get8 p))
  | .r16 p, .r16 q => finish 2 s ((s.set16 p (s.get16 q)).set16 q (s.get16 p))
  | .r8 p, .r16 q => mixedExchange p q s
  | .r16 p, .r8 q => mixedExchange q p s

/-- SEX: `x[r2] <- sext_16(x[r1])`; no flag (R146). -/
def execSex (r1 : Reg8) (r2 : Reg16) (s : State) : Host.Outcome State Fault Refusal :=
  finish 2 s (s.set16 r2 (sext16 (s.get8 r1)))

/-- TAB: `B <- A`; N, Z from A, V cleared (R147). -/
def execTab (s : State) : Host.Outcome State Fault Refusal :=
  finish 2 s ((s.setB s.a).setFlags (nzUpdate s.a))

/-- TBA: `A <- B`; N, Z from B, V cleared (R148). -/
def execTba (s : State) : Host.Outcome State Fault Refusal :=
  finish 2 s ((s.setA s.b).setFlags (nzUpdate s.b))

/-- TAP: `WriteCCR(A)` (R149). -/
def execTap (s : State) : Host.Outcome State Fault Refusal :=
  finish 2 s (s.writeCcr s.a)

/-- TPA: `A <- CCR`; no flag (R150). -/
def execTpa (s : State) : Host.Outcome State Fault Refusal :=
  finish 2 s (s.setA s.ccr)

/-- TSX: `X <- SP`; no flag (R151). -/
def execTsx (s : State) : Host.Outcome State Fault Refusal :=
  finish 2 s (s.setX s.sp)

/-- TSY: `Y <- SP`; no flag (R152). -/
def execTsy (s : State) : Host.Outcome State Fault Refusal :=
  finish 2 s (s.setY s.sp)

/-- TXS: `SP <- X`; no flag (R153). -/
def execTxs (s : State) : Host.Outcome State Fault Refusal :=
  finish 2 s (s.setSp s.x)

/-- TYS: `SP <- Y`; no flag (R154). -/
def execTys (s : State) : Host.Outcome State Fault Refusal :=
  finish 2 s (s.setSp s.y)

/-- XGDX: D and X exchanged; no flag (R155). -/
def execXgdx (s : State) : Host.Outcome State Fault Refusal :=
  finish 2 s ((s.setD s.x).setX s.d)

/-- XGDY: D and Y exchanged; no flag (R156). -/
def execXgdy (s : State) : Host.Outcome State Fault Refusal :=
  finish 2 s ((s.setD s.y).setY s.d)

/-- MOVB: the source address and byte first, then the destination address, which sees the source's step, then
the write; no flag; the operand patterns of R95 refused (R158, R94, R157). -/
def execMovb (src : MovSrc8) (dst : MovDst) (s : State) : Host.Outcome State Fault Refusal :=
  if src.movForm && dst.movForm then
    let next := s.nextPc (2 + movSrc8Size src + movDstSize dst)
    complete next (match fetchMovSrc8 src next s with
      | .ok (v, s1) =>
        match resolveMovDst dst next s1 with
        | .ok (a, s2) => writeByte s2 a v
        | .error e => .error e
      | .error e => .error e)
  else .refused .moveIndexedForm

/-- MOVW: as MOVB with a word, read whole before the write (R159, R94, R157). -/
def execMovw (src : MovSrc16) (dst : MovDst) (s : State) : Host.Outcome State Fault Refusal :=
  if src.movForm && dst.movForm then
    let next := s.nextPc (2 + movSrc16Size src + movDstSize dst)
    complete next (match fetchMovSrc16 src next s with
      | .ok (v, s1) =>
        match resolveMovDst dst next s1 with
        | .ok (a, s2) => writeWord s2 a v
        | .error e => .error e
      | .error e => .error e)
  else .refused .moveIndexedForm

end Sys2Proof.Machine
end

