-- ==== Sys2Proof/Machine/Dispatch.lean ====
section
/-! DEFINITION. The dispatch: one arm per constructor of Instr, each one direct call of the instruction's own
meaning. -/

namespace Sys2Proof.Machine

def exec (i : Instr) (s : State) : Host.Outcome State Fault Refusal :=
  match i with
  | .ldaa op => Sys2Proof.Machine.execLdaa op s
  | .ldab op => Sys2Proof.Machine.execLdab op s
  | .ldd op => Sys2Proof.Machine.execLdd op s
  | .lds op => Sys2Proof.Machine.execLds op s
  | .ldx op => Sys2Proof.Machine.execLdx op s
  | .ldy op => Sys2Proof.Machine.execLdy op s
  | .leas x => Sys2Proof.Machine.execLeas x s
  | .leax x => Sys2Proof.Machine.execLeax x s
  | .leay x => Sys2Proof.Machine.execLeay x s
  | .staa ea => Sys2Proof.Machine.execStaa ea s
  | .stab ea => Sys2Proof.Machine.execStab ea s
  | .std ea => Sys2Proof.Machine.execStd ea s
  | .sts ea => Sys2Proof.Machine.execSts ea s
  | .stx ea => Sys2Proof.Machine.execStx ea s
  | .sty ea => Sys2Proof.Machine.execSty ea s
  | .tfr r1 r2 => Sys2Proof.Machine.execTfr r1 r2 s
  | .exg r1 r2 => Sys2Proof.Machine.execExg r1 r2 s
  | .sex r1 r2 => Sys2Proof.Machine.execSex r1 r2 s
  | .tab => Sys2Proof.Machine.execTab s
  | .tba => Sys2Proof.Machine.execTba s
  | .tap => Sys2Proof.Machine.execTap s
  | .tpa => Sys2Proof.Machine.execTpa s
  | .tsx => Sys2Proof.Machine.execTsx s
  | .tsy => Sys2Proof.Machine.execTsy s
  | .txs => Sys2Proof.Machine.execTxs s
  | .tys => Sys2Proof.Machine.execTys s
  | .xgdx => Sys2Proof.Machine.execXgdx s
  | .xgdy => Sys2Proof.Machine.execXgdy s
  | .movb src dst => Sys2Proof.Machine.execMovb src dst s
  | .movw src dst => Sys2Proof.Machine.execMovw src dst s
  | .des => Sys2Proof.Machine.execDes s
  | .ins => Sys2Proof.Machine.execIns s
  | .cps op => Sys2Proof.Machine.execCps op s
  | .psha => Sys2Proof.Machine.execPsha s
  | .pshb => Sys2Proof.Machine.execPshb s
  | .pshc => Sys2Proof.Machine.execPshc s
  | .pshcw => Sys2Proof.Machine.execPshcw s
  | .pshd => Sys2Proof.Machine.execPshd s
  | .pshx => Sys2Proof.Machine.execPshx s
  | .pshy => Sys2Proof.Machine.execPshy s
  | .pula => Sys2Proof.Machine.execPula s
  | .pulb => Sys2Proof.Machine.execPulb s
  | .pulc => Sys2Proof.Machine.execPulc s
  | .pulcw => Sys2Proof.Machine.execPulcw s
  | .puld => Sys2Proof.Machine.execPuld s
  | .pulx => Sys2Proof.Machine.execPulx s
  | .puly => Sys2Proof.Machine.execPuly s
  | .aba => Sys2Proof.Machine.execAba s
  | .abx => Sys2Proof.Machine.execAbx s
  | .aby => Sys2Proof.Machine.execAby s
  | .adca op => Sys2Proof.Machine.execAdca op s
  | .adcb op => Sys2Proof.Machine.execAdcb op s
  | .adda op => Sys2Proof.Machine.execAdda op s
  | .addb op => Sys2Proof.Machine.execAddb op s
  | .addd op => Sys2Proof.Machine.execAddd op s
  | .sba => Sys2Proof.Machine.execSba s
  | .sbca op => Sys2Proof.Machine.execSbca op s
  | .sbcb op => Sys2Proof.Machine.execSbcb op s
  | .suba op => Sys2Proof.Machine.execSuba op s
  | .subb op => Sys2Proof.Machine.execSubb op s
  | .subd op => Sys2Proof.Machine.execSubd op s
  | .dec ea => Sys2Proof.Machine.execDec ea s
  | .deca => Sys2Proof.Machine.execDeca s
  | .decb => Sys2Proof.Machine.execDecb s
  | .dex => Sys2Proof.Machine.execDex s
  | .dey => Sys2Proof.Machine.execDey s
  | .inc ea => Sys2Proof.Machine.execInc ea s
  | .inca => Sys2Proof.Machine.execInca s
  | .incb => Sys2Proof.Machine.execIncb s
  | .inx => Sys2Proof.Machine.execInx s
  | .iny => Sys2Proof.Machine.execIny s
  | .cba => Sys2Proof.Machine.execCba s
  | .cmpa op => Sys2Proof.Machine.execCmpa op s
  | .cmpb op => Sys2Proof.Machine.execCmpb op s
  | .cpd op => Sys2Proof.Machine.execCpd op s
  | .cpx op => Sys2Proof.Machine.execCpx op s
  | .cpy op => Sys2Proof.Machine.execCpy op s
  | .tst ea => Sys2Proof.Machine.execTst ea s
  | .tsta => Sys2Proof.Machine.execTsta s
  | .tstb => Sys2Proof.Machine.execTstb s
  | .clc => Sys2Proof.Machine.execClc s
  | .cli => Sys2Proof.Machine.execCli s
  | .clv => Sys2Proof.Machine.execClv s
  | .clr ea => Sys2Proof.Machine.execClr ea s
  | .clra => Sys2Proof.Machine.execClra s
  | .clrb => Sys2Proof.Machine.execClrb s
  | .com ea => Sys2Proof.Machine.execCom ea s
  | .coma => Sys2Proof.Machine.execComa s
  | .comb => Sys2Proof.Machine.execComb s
  | .neg ea => Sys2Proof.Machine.execNeg ea s
  | .nega => Sys2Proof.Machine.execNega s
  | .negb => Sys2Proof.Machine.execNegb s
  | .emul => Sys2Proof.Machine.execEmul s
  | .emuls => Sys2Proof.Machine.execEmuls s
  | .mul => Sys2Proof.Machine.execMul s
  | .ediv => Sys2Proof.Machine.execEdiv s
  | .edivs => Sys2Proof.Machine.execEdivs s
  | .fdiv => Sys2Proof.Machine.execFdiv s
  | .idiv => Sys2Proof.Machine.execIdiv s
  | .idivs => Sys2Proof.Machine.execIdivs s
  | .anda op => Sys2Proof.Machine.execAnda op s
  | .andb op => Sys2Proof.Machine.execAndb op s
  | .andcc ii => Sys2Proof.Machine.execAndcc ii s
  | .eora op => Sys2Proof.Machine.execEora op s
  | .eorb op => Sys2Proof.Machine.execEorb op s
  | .oraa op => Sys2Proof.Machine.execOraa op s
  | .orab op => Sys2Proof.Machine.execOrab op s
  | .orcc ii => Sys2Proof.Machine.execOrcc ii s
  | .lsl ea => Sys2Proof.Machine.execLsl ea s
  | .lsla => Sys2Proof.Machine.execLsla s
  | .lslb => Sys2Proof.Machine.execLslb s
  | .lsld => Sys2Proof.Machine.execLsld s
  | .lsr ea => Sys2Proof.Machine.execLsr ea s
  | .lsra => Sys2Proof.Machine.execLsra s
  | .lsrb => Sys2Proof.Machine.execLsrb s
  | .lsrd => Sys2Proof.Machine.execLsrd s
  | .asl ea => Sys2Proof.Machine.execAsl ea s
  | .asla => Sys2Proof.Machine.execAsla s
  | .aslb => Sys2Proof.Machine.execAslb s
  | .asld => Sys2Proof.Machine.execAsld s
  | .asr ea => Sys2Proof.Machine.execAsr ea s
  | .asra => Sys2Proof.Machine.execAsra s
  | .asrb => Sys2Proof.Machine.execAsrb s
  | .rol ea => Sys2Proof.Machine.execRol ea s
  | .rola => Sys2Proof.Machine.execRola s
  | .rolb => Sys2Proof.Machine.execRolb s
  | .ror ea => Sys2Proof.Machine.execRor ea s
  | .rora => Sys2Proof.Machine.execRora s
  | .rorb => Sys2Proof.Machine.execRorb s

end Sys2Proof.Machine
end

