-- ==== Sys2Proof/WellFormed.lean ====
section
/-! DEFINITION. Well-formed instructions: those whose operand pattern the spec admits (spec/30_encoding.md
R95 MOVB and MOVW, R96 the automatically stepped base, R97 LEA). Everything else of an operand (register
codes, offset widths, the formats of a mnemonic) is right by its type. -/

namespace Sys2Proof

/-- R95, R96, R97: the operand pattern is one the spec admits. -/
def WellFormed (i : Instr) : Bool :=
  match i with
  | .ldaa _ => true
  | .ldab _ => true
  | .ldd _ => true
  | .lds op => !op.stepsBase .sp
  | .ldx op => !op.stepsBase .x
  | .ldy op => !op.stepsBase .y
  | .leas i => i.leaForm
  | .leax i => i.leaForm
  | .leay i => i.leaForm
  | .staa _ => true
  | .stab _ => true
  | .std _ => true
  | .sts ea => !ea.stepsBase .sp
  | .stx ea => !ea.stepsBase .x
  | .sty ea => !ea.stepsBase .y
  | .tfr _ _ => true
  | .exg _ _ => true
  | .sex _ _ => true
  | .tab => true
  | .tba => true
  | .tap => true
  | .tpa => true
  | .tsx => true
  | .tsy => true
  | .txs => true
  | .tys => true
  | .xgdx => true
  | .xgdy => true
  | .movb src dst => src.movForm && dst.movForm
  | .movw src dst => src.movForm && dst.movForm
  | .des => true
  | .ins => true
  | .cps op => !op.stepsBase .sp
  | .psha => true
  | .pshb => true
  | .pshc => true
  | .pshcw => true
  | .pshd => true
  | .pshx => true
  | .pshy => true
  | .pula => true
  | .pulb => true
  | .pulc => true
  | .pulcw => true
  | .puld => true
  | .pulx => true
  | .puly => true
  | .aba => true
  | .abx => true
  | .aby => true
  | .adca _ => true
  | .adcb _ => true
  | .adda _ => true
  | .addb _ => true
  | .addd _ => true
  | .sba => true
  | .sbca _ => true
  | .sbcb _ => true
  | .suba _ => true
  | .subb _ => true
  | .subd _ => true
  | .dec _ => true
  | .deca => true
  | .decb => true
  | .dex => true
  | .dey => true
  | .inc _ => true
  | .inca => true
  | .incb => true
  | .inx => true
  | .iny => true
  | .cba => true
  | .cmpa _ => true
  | .cmpb _ => true
  | .cpd _ => true
  | .cpx op => !op.stepsBase .x
  | .cpy op => !op.stepsBase .y
  | .tst _ => true
  | .tsta => true
  | .tstb => true
  | .clc => true
  | .cli => true
  | .clv => true
  | .clr _ => true
  | .clra => true
  | .clrb => true
  | .com _ => true
  | .coma => true
  | .comb => true
  | .neg _ => true
  | .nega => true
  | .negb => true
  | .emul => true
  | .emuls => true
  | .mul => true
  | .ediv => true
  | .edivs => true
  | .fdiv => true
  | .idiv => true
  | .idivs => true
  | .anda _ => true
  | .andb _ => true
  | .andcc _ => true
  | .eora _ => true
  | .eorb _ => true
  | .oraa _ => true
  | .orab _ => true
  | .orcc _ => true
  | .lsl _ => true
  | .lsla => true
  | .lslb => true
  | .lsld => true
  | .lsr _ => true
  | .lsra => true
  | .lsrb => true
  | .lsrd => true
  | .asl _ => true
  | .asla => true
  | .aslb => true
  | .asld => true
  | .asr _ => true
  | .asra => true
  | .asrb => true
  | .rol _ => true
  | .rola => true
  | .rolb => true
  | .ror _ => true
  | .rora => true
  | .rorb => true

end Sys2Proof
end

