-- ==== Sys2Proof/Machine/Fetch.lean ====
section
/-! DEFINITION. Fetching the instruction at PC (spec/30_encoding.md R71, R73, spec/20_memory.md R63), with the
stops that come before an instruction's own (spec/60_exceptions.md R374), and placing an instruction where the
next fetch reads it. -/

namespace Sys2Proof.Machine

/-- The instruction bytes from `a` on, at most `k`, up to the first byte outside the program text (R63). -/
def fetchWindow (s : State) : Nat → Word → List Byte
  | 0, _ => []
  | k + 1, a =>
    if s.launch.inCode a then s.byteAt a :: fetchWindow s k (a + 1#16) else []

/-- The first `len` instruction bytes are admitted (R51). -/
def fetchAdmitted (s : State) (len : Nat) : Bool := (List.range len).all fun k => s.launch.admits (s.nextPc k)

/-- Decode the bytes of the program text at PC. The stops in the order of R374: a byte the instruction needs lies
outside the text; no row matches; an operand pattern the spec shuts out (of a move here, else refused by the
instruction's meaning); a byte that is not admitted. That the fetch needs its bytes admitted is a DESIGN CHOICE
(notes/assumptions/15.md); safe. -/
def decodeFetched (s : State) (bytes : List Byte) : Except Stop Instr :=
  match decode bytes with
  | .ok (i, rest) =>
    if WellFormed i && !fetchAdmitted s (bytes.length - rest.length) then .error (.fault .stuck) else .ok i
  | .error .truncated => .error (.refused .fetchOutsideCode)
  | .error .notInScope => .error (.refused .notInScope)
  | .error .moveIndexedForm => .error (.refused .moveIndexedForm)

/-- The instruction at PC; at `end_pc` the run is over (R383). -/
def fetchInstr (s : State) : Except Stop Instr :=
  if s.pc = s.launch.endPc then .error (.fault .runEnded) else decodeFetched s (fetchWindow s 6 s.pc)

/-! ## Placing an instruction -/

/-- Store bytes at `a` and on, without checks. -/
def placeBytes (s : State) : Word → List Byte → State
  | _, [] => s
  | a, b :: bs => placeBytes (s.putByte a b) (a + 1#16) bs

/-- The six addresses from PC on. -/
def windowAddresses (s : State) : List Word := (List.range 6).map fun k => s.nextPc k

/-- The parameters under which the six bytes at PC can be fetched: unchanged where they can be already. -/
def launchForWindow (s : State) : Launch :=
  let l := s.launch
  let missing := (windowAddresses s).filter fun a => !l.admits a
  let covered := (windowAddresses s).all fun a => l.inCode a
  let wraps := decide (0xFFFA#16 < s.pc)
  { l with
    admitted := l.admitted ++ missing.map fun a => ⟨a, a⟩
    codeLo := if covered then l.codeLo else if wraps then 0x0000#16 else s.pc
    codeHi := if covered then l.codeHi else if wraps then 0xFFFF#16 else s.pc + 5#16
    endPc := if l.endPc = s.pc then s.pc + 6#16 else l.endPc }

/-- The table word's six bytes stored at PC, with the parameters the fetch needs. -/
def placeInstruction (s : State) (nbits w : Nat) : State :=
  { placeBytes s s.pc (wordBytes nbits w) with launch := launchForWindow s }

end Sys2Proof.Machine
end

