-- ==== Sys2Proof/Safety.lean ====
section
/-! DEFINITION. The terms the statements use: what counts as a safe run, what it is for an instruction to
complete with a row of the condition-code table (spec/10_state.md R29), what a store leaves of memory, and
which instructions write memory and keep CCR (spec/20_memory.md R56, spec/10_state.md R29). -/

namespace Sys2Proof.Safety

open Sys2Proof.Machine

/-! ## Runs -/

/-- A run of `k` steps that meets no stop (R14, R377). -/
def RunsFor (k : Nat) (s : State) : Prop := ∃ t, Host.Core.run Sys2Proof.core k s = .next t

/-- The run has reached its end (R383). -/
def Ended (s : State) : Prop := s.pc = s.launch.endPc

/-- The memory has its canonical form: addresses strictly rising and 16 bits wide, no entry with the unlisted
value. -/
def MemoryCanonical (s : State) : Prop := Memory.wf s.mem = true

/-- An outcome with its next state changed. -/
def mapNext (f : State → State) : Host.Outcome State Fault Refusal → Host.Outcome State Fault Refusal
  | .next t => .next (f t)
  | .fault e => .fault e
  | .refused r => .refused r

/-! ## Completing -/

/-- `next`, the address after the instruction (R13). -/
def nextOf (i : Instr) (s : State) : Word := s.pc + BitVec.ofNat 16 (byteLength i)

/-- CCR went from `old` to `new` by a row of R29: each bit the row gives has its value, each other bit is kept
(positions R28). -/
def CcrRow (old new : Byte) (u : FlagUpdate) : Prop :=
  new.getLsbD 7 = old.getLsbD 7 ∧
  new.getLsbD 6 = old.getLsbD 6 ∧
  new.getLsbD 5 = u.h.getD (old.getLsbD 5) ∧
  new.getLsbD 4 = u.i.getD (old.getLsbD 4) ∧
  new.getLsbD 3 = u.n.getD (old.getLsbD 3) ∧
  new.getLsbD 2 = u.z.getD (old.getLsbD 2) ∧
  new.getLsbD 1 = u.v.getD (old.getLsbD 1) ∧
  new.getLsbD 0 = u.c.getD (old.getLsbD 0)

/-- CCR took the byte `v`, except that X cannot go from 0 to 1 (R30). -/
def CcrLoaded (old v new : Byte) : Prop :=
  ∀ k, k < 8 → new.getLsbD k = if k = 6 then (old.getLsbD 6 && v.getLsbD 6) else v.getLsbD k

/-- The instruction completes; its next state is `t` with the PC advanced and CCR changed by the row `u`. What
`t` shares with `s` is the frame. -/
def CompletesTo (i : Instr) (s t : State) (u : FlagUpdate) : Prop :=
  ∃ c : Byte, exec i s = .next { t with ccr := c, pc := nextOf i s } ∧ CcrRow s.ccr c u

/-- The instruction completes with CCR loaded from `v` (R30). -/
def CompletesLoadingCcr (i : Instr) (s t : State) (v : Byte) : Prop :=
  ∃ c : Byte, exec i s = .next { t with ccr := c, pc := nextOf i s } ∧ CcrLoaded s.ccr v c

/-- The instruction completes and writes the one byte `v` at `a`: every other byte reads as in `t`. -/
def StoresByteTo (i : Instr) (s t : State) (a : Word) (v : Byte) (u : FlagUpdate) : Prop :=
  ∃ (c : Byte) (m : Memory),
    exec i s = .next { t with ccr := c, mem := m, pc := nextOf i s } ∧ CcrRow s.ccr c u ∧
    ∀ b : Word, Memory.read m b.toNat = if b = a then v else t.byteAt b

/-- The instruction completes and writes the word `v` at `a`, high byte at `a`, low byte at `a + 1`: every other
byte reads as in `t` (R52). -/
def StoresWordTo (i : Instr) (s t : State) (a : Word) (v : Word) (u : FlagUpdate) : Prop :=
  ∃ (c : Byte) (m : Memory),
    exec i s = .next { t with ccr := c, mem := m, pc := nextOf i s } ∧ CcrRow s.ccr c u ∧
    ∀ b : Word, (Memory.read m b.toNat).toNat =
      if b = a then v.toNat / 256 else if b = a + 1#16 then v.toNat % 256 else (t.byteAt b).toNat

/-! ## Operands -/

/-- The value an indexed operand's base has: PC as a base is `next`, the address after the instruction (R83). -/
def baseValue (s : State) (next : Word) : Base → Word
  | .x => s.x
  | .y => s.y
  | .sp => s.sp
  | .pc => next

/-- The value of the register an automatic mode steps (R85). -/
def autoValue (s : State) : AutoBase → Word
  | .x => s.x
  | .y => s.y
  | .sp => s.sp

/-- The 8-bit operand of a one-byte opcode, whose instruction is as long as LDAA's, is readable: its value is `v`,
and `s1` is `s` with the operand's automatic step done (R80, R85). -/
def Reads8 (op : Src8) (s : State) (v : Byte) (s1 : State) : Prop :=
  fetchSrc8 op (nextOf (.ldaa op) s) s = .ok (v, s1)

/-- The 16-bit operand of a one-byte opcode, whose instruction is as long as LDD's, is readable. -/
def Reads16 (op : Src16) (s : State) (v : Word) (s1 : State) : Prop :=
  fetchSrc16 op (nextOf (.ldd op) s) s = .ok (v, s1)

/-- The effective address of a store's operand is `a`, and `s1` is `s` with the operand's automatic step done. -/
def EaOf (ea : Ea) (s : State) (a : Word) (s1 : State) : Prop := resolveEa ea (nextOf (.staa ea) s) s = .ok (a, s1)

/-- The effective address of a CLR, TST or read-modify-write operand. -/
def EaOfXI (ea : EaXI) (s : State) (a : Word) (s1 : State) : Prop :=
  resolveEaXI ea (nextOf (.clr ea) s) s = .ok (a, s1)

/-- The 8-bit operand has no value: a byte it needs is not admitted (R51). -/
def Unreadable8 (op : Src8) (s : State) : Prop := ∀ v s1, ¬Reads8 op s v s1

/-- The 16-bit operand has no value. -/
def Unreadable16 (op : Src16) (s : State) : Prop := ∀ v s1, ¬Reads16 op s v s1

/-- The operand has no effective address: a byte of its pointer is not admitted (R89, R90). -/
def NoAddress (ea : Ea) (s : State) : Prop := ∀ a s1, ¬EaOf ea s a s1

/-- A CLR, TST or read-modify-write operand has no effective address. -/
def NoAddressXI (ea : EaXI) (s : State) : Prop := ∀ a s1, ¬EaOfXI ea s a s1

/-- The byte at `a` may be written: admitted and outside the program text (R51, R63). -/
def Writable (s : State) (a : Word) : Prop := s.launch.admits a = true ∧ s.launch.inCode a = false

/-- The word at `a` may be read. -/
def Readable16 (s : State) (a : Word) : Prop := s.launch.admits a = true ∧ s.launch.admits (a + 1#16) = true

/-- The word at `a` may be written. -/
def Writable16 (s : State) (a : Word) : Prop := Writable s a ∧ Writable s (a + 1#16)

/-- Where an instruction that writes the byte at `a` stops: stuck if it is not admitted, else refused if it is program
text (R51, R63, R374, R377). -/
def StopsWritingByte (i : Instr) (s : State) (a : Word) : Prop :=
  (s.launch.admits a = false → exec i s = .fault .stuck) ∧
  (s.launch.admits a = true → s.launch.inCode a = true → exec i s = .refused .writeToCode)

/-- Where an instruction that writes the word at `a` stops, as a whole, by either of its bytes. -/
def StopsWritingWord (i : Instr) (s : State) (a : Word) : Prop :=
  (¬Readable16 s a → exec i s = .fault .stuck) ∧
  (Readable16 s a → s.launch.inCode a = true ∨ s.launch.inCode (a + 1#16) = true →
    exec i s = .refused .writeToCode)

/-- Every address is admitted, none is program text, and unstated results are free values. -/
def OpenLaunch (s : State) : Prop :=
  (∀ a, s.launch.admits a = true) ∧ (∀ a, s.launch.inCode a = false) ∧ s.launch.refuseUnstated = false

/-- The bytes from PC on are `bs`, all of them program text (R63, R71). -/
def TextBytes (s : State) (bs : List Byte) : Prop :=
  ∀ k, k < bs.length → s.launch.inCode (s.nextPc k) = true ∧ bs[k]? = some (s.byteAt (s.nextPc k))

/-- The bytes from PC on are `bs`, all of them program text and admitted (R63, R71). -/
def ProgramBytes (s : State) (bs : List Byte) : Prop :=
  ∀ k, k < bs.length → s.launch.inCode (s.nextPc k) = true ∧ s.launch.admits (s.nextPc k) = true ∧
    bs[k]? = some (s.byteAt (s.nextPc k))

/-- A signed result outside 8 bits (two's-complement overflow). -/
def outside8 (z : Int) : Bool := decide (z < -128 ∨ 127 < z)

/-- A signed result outside 16 bits (two's-complement overflow). -/
def outside16 (z : Int) : Bool := decide (z < -32768 ∨ 32767 < z)

/-! ## Rows of the condition-code table, by numbers -/

/-- N and Z of a byte, V cleared (R111, R312). -/
def byteRow (v : Byte) : FlagUpdate :=
  { n := some (decide (128 ≤ v.toNat)), z := some (decide (v.toNat = 0)), v := some false }

/-- N and Z of a word, V cleared (R111). -/
def wordRow (v : Word) : FlagUpdate :=
  { n := some (decide (32768 ≤ v.toNat)), z := some (decide (v.toNat = 0)), v := some false }

/-- H, N, Z, V, C of `a + m + c` in 8 bits (R15, R217). -/
def sumRow8 (a m : Byte) (c : Nat) : FlagUpdate :=
  { h := some (decide (16 ≤ a.toNat % 16 + m.toNat % 16 + c))
    n := some (decide (128 ≤ (a.toNat + m.toNat + c) % 256))
    z := some (decide ((a.toNat + m.toNat + c) % 256 = 0))
    v := some (outside8 (a.toInt + m.toInt + c))
    c := some (decide (256 ≤ a.toNat + m.toNat + c)) }

/-- N, Z, V, C of `a + m` in 16 bits (R15, R217). -/
def sumRow16 (a m : Word) : FlagUpdate :=
  { n := some (decide (32768 ≤ (a.toNat + m.toNat) % 65536))
    z := some (decide ((a.toNat + m.toNat) % 65536 = 0))
    v := some (outside16 (a.toInt + m.toInt))
    c := some (decide (65536 ≤ a.toNat + m.toNat)) }

/-- N, Z, V, C of `a - m - c` in 8 bits, C the borrow (R16, R217, R253, R271). -/
def diffRow8 (a m : Byte) (c : Nat) : FlagUpdate :=
  { n := some (decide (128 ≤ ((a.toNat : Int) - m.toNat - c) % 256))
    z := some (decide (((a.toNat : Int) - m.toNat - c) % 256 = 0))
    v := some (outside8 (a.toInt - m.toInt - c))
    c := some (decide (a.toNat < m.toNat + c)) }

/-- N, Z, V, C of `a - m` in 16 bits, C the borrow (R16, R217, R253). -/
def diffRow16 (a m : Word) : FlagUpdate :=
  { n := some (decide (32768 ≤ ((a.toNat : Int) - m.toNat) % 65536))
    z := some (decide (a = m))
    v := some (outside16 (a.toInt - m.toInt))
    c := some (decide (a.toNat < m.toNat)) }

/-- N, Z, V, C of an 8-bit shift with result `r` and carry out `k` (R333). -/
def shiftRow8 (r : Nat) (k : Bool) : FlagUpdate :=
  { n := some (decide (128 ≤ r)), z := some (decide (r = 0)), v := some (decide (128 ≤ r) != k), c := some k }

/-- N, Z, V, C of a 16-bit shift with result `r` and carry out `k` (R333). -/
def shiftRow16 (r : Nat) (k : Bool) : FlagUpdate :=
  { n := some (decide (32768 ≤ r)), z := some (decide (r = 0)), v := some (decide (32768 ≤ r) != k), c := some k }

/-- C as a number (R8). -/
def carry (s : State) : Nat := if s.ccr.getLsbD 0 then 1 else 0

/-- `A : B` as a number (R22). -/
def dNat (s : State) : Nat := s.a.toNat * 256 + s.b.toNat

/-- The word at `a` as a number, high byte first (R52). -/
def wordNat (s : State) (a : Word) : Nat := (s.byteAt a).toNat * 256 + (s.byteAt (a + 1#16)).toNat

/-! ## Which instructions write what -/

/-- The instructions that write memory (R56). -/
def writesMemory (i : Instr) : Bool :=
  match i with
  | .ldaa _ => false
  | .ldab _ => false
  | .ldd _ => false
  | .lds _ => false
  | .ldx _ => false
  | .ldy _ => false
  | .leas _ => false
  | .leax _ => false
  | .leay _ => false
  | .staa _ => true
  | .stab _ => true
  | .std _ => true
  | .sts _ => true
  | .stx _ => true
  | .sty _ => true
  | .tfr _ _ => false
  | .exg _ _ => false
  | .sex _ _ => false
  | .tab => false
  | .tba => false
  | .tap => false
  | .tpa => false
  | .tsx => false
  | .tsy => false
  | .txs => false
  | .tys => false
  | .xgdx => false
  | .xgdy => false
  | .movb _ _ => true
  | .movw _ _ => true
  | .des => false
  | .ins => false
  | .cps _ => false
  | .psha => true
  | .pshb => true
  | .pshc => true
  | .pshcw => true
  | .pshd => true
  | .pshx => true
  | .pshy => true
  | .pula => false
  | .pulb => false
  | .pulc => false
  | .pulcw => false
  | .puld => false
  | .pulx => false
  | .puly => false
  | .aba => false
  | .abx => false
  | .aby => false
  | .adca _ => false
  | .adcb _ => false
  | .adda _ => false
  | .addb _ => false
  | .addd _ => false
  | .sba => false
  | .sbca _ => false
  | .sbcb _ => false
  | .suba _ => false
  | .subb _ => false
  | .subd _ => false
  | .dec _ => true
  | .deca => false
  | .decb => false
  | .dex => false
  | .dey => false
  | .inc _ => true
  | .inca => false
  | .incb => false
  | .inx => false
  | .iny => false
  | .cba => false
  | .cmpa _ => false
  | .cmpb _ => false
  | .cpd _ => false
  | .cpx _ => false
  | .cpy _ => false
  | .tst _ => false
  | .tsta => false
  | .tstb => false
  | .clc => false
  | .cli => false
  | .clv => false
  | .clr _ => true
  | .clra => false
  | .clrb => false
  | .com _ => true
  | .coma => false
  | .comb => false
  | .neg _ => true
  | .nega => false
  | .negb => false
  | .emul => false
  | .emuls => false
  | .mul => false
  | .ediv => false
  | .edivs => false
  | .fdiv => false
  | .idiv => false
  | .idivs => false
  | .anda _ => false
  | .andb _ => false
  | .andcc _ => false
  | .eora _ => false
  | .eorb _ => false
  | .oraa _ => false
  | .orab _ => false
  | .orcc _ => false
  | .lsl _ => true
  | .lsla => false
  | .lslb => false
  | .lsld => false
  | .lsr _ => true
  | .lsra => false
  | .lsrb => false
  | .lsrd => false
  | .asl _ => true
  | .asla => false
  | .aslb => false
  | .asld => false
  | .asr _ => true
  | .asra => false
  | .asrb => false
  | .rol _ => true
  | .rola => false
  | .rolb => false
  | .ror _ => true
  | .rora => false
  | .rorb => false

/-- The instructions that change no CCR bit (R29). -/
def keepsCcr (i : Instr) : Bool :=
  match i with
  | .ldaa _ => false
  | .ldab _ => false
  | .ldd _ => false
  | .lds _ => false
  | .ldx _ => false
  | .ldy _ => false
  | .leas _ => true
  | .leax _ => true
  | .leay _ => true
  | .staa _ => false
  | .stab _ => false
  | .std _ => false
  | .sts _ => false
  | .stx _ => false
  | .sty _ => false
  | .tfr _ r2 => r2 != .r8 .ccr
  | .exg r1 r2 => r1 != .r8 .ccr && r2 != .r8 .ccr
  | .sex _ _ => true
  | .tab => false
  | .tba => false
  | .tap => false
  | .tpa => true
  | .tsx => true
  | .tsy => true
  | .txs => true
  | .tys => true
  | .xgdx => true
  | .xgdy => true
  | .movb _ _ => true
  | .movw _ _ => true
  | .des => true
  | .ins => true
  | .cps _ => false
  | .psha => true
  | .pshb => true
  | .pshc => true
  | .pshcw => true
  | .pshd => true
  | .pshx => true
  | .pshy => true
  | .pula => true
  | .pulb => true
  | .pulc => false
  | .pulcw => false
  | .puld => true
  | .pulx => true
  | .puly => true
  | .aba => false
  | .abx => true
  | .aby => true
  | .adca _ => false
  | .adcb _ => false
  | .adda _ => false
  | .addb _ => false
  | .addd _ => false
  | .sba => false
  | .sbca _ => false
  | .sbcb _ => false
  | .suba _ => false
  | .subb _ => false
  | .subd _ => false
  | .dec _ => false
  | .deca => false
  | .decb => false
  | .dex => false
  | .dey => false
  | .inc _ => false
  | .inca => false
  | .incb => false
  | .inx => false
  | .iny => false
  | .cba => false
  | .cmpa _ => false
  | .cmpb _ => false
  | .cpd _ => false
  | .cpx _ => false
  | .cpy _ => false
  | .tst _ => false
  | .tsta => false
  | .tstb => false
  | .clc => false
  | .cli => false
  | .clv => false
  | .clr _ => false
  | .clra => false
  | .clrb => false
  | .com _ => false
  | .coma => false
  | .comb => false
  | .neg _ => false
  | .nega => false
  | .negb => false
  | .emul => false
  | .emuls => false
  | .mul => false
  | .ediv => false
  | .edivs => false
  | .fdiv => false
  | .idiv => false
  | .idivs => false
  | .anda _ => false
  | .andb _ => false
  | .andcc _ => false
  | .eora _ => false
  | .eorb _ => false
  | .oraa _ => false
  | .orab _ => false
  | .orcc _ => false
  | .lsl _ => false
  | .lsla => false
  | .lslb => false
  | .lsld => false
  | .lsr _ => false
  | .lsra => false
  | .lsrb => false
  | .lsrd => false
  | .asl _ => false
  | .asla => false
  | .aslb => false
  | .asld => false
  | .asr _ => false
  | .asra => false
  | .asrb => false
  | .rol _ => false
  | .rola => false
  | .rolb => false
  | .ror _ => false
  | .rora => false
  | .rorb => false

end Sys2Proof.Safety
end

