-- ==== Sys2Proof/Certificates/Slice0/Obligations.lean ====
section
/-! DEFINITION. The statements about the CPU12 model, for the provers. -/

open Sys2Proof Sys2Proof.Machine Sys2Proof.Safety

/-! ## Decoding and encoding -/

/-- Decoding the bytes of a well-formed instruction, whatever follows them, gives that instruction under its
canonical name and leaves what follows (R71 to R75, R91, R93, R94). The canonical name is the model's choice of
one spelling for bytes that two mnemonics share (R98, R99; notes/assumptions/13.md). -/
def Obligations.DecodeEncodeGivesTheInstruction : Prop :=
  ∀ (i : Instr) (rest : List Byte), WellFormed i = true → decode (encode i ++ rest) = .ok (canonical i, rest)

/-- What the decoder reads is exactly the encoding of what it answers: no bit of an instruction is ignored (R71 to
R75, R91, R93, R94). That its answer is a canonical name is the model's choice of one name for shared bytes
(notes/assumptions/13.md), not the spec's. -/
def Obligations.DecodedBytesAreTheEncoding : Prop :=
  ∀ (bs rest : List Byte) (i : Instr),
    decode bs = .ok (i, rest) → bs = encode i ++ rest ∧ canonical i = i

/-- The table of the 256 postbytes (R91): the row of each value, with its base, its fields and its extension
bytes, the high extension byte first. -/
def Obligations.EveryPostbyteHasItsRow : Prop :=
  ∀ (xb e f : Byte) (rest : List Byte),
    ∃ r : Base, (∀ q, (xb.toNat < 224 ∧ q = xb.toNat / 64) ∨ (224 ≤ xb.toNat ∧ q = xb.toNat / 8 % 4) →
        r = if q = 0 then .x else if q = 1 then .y else if q = 2 then .sp else .pc) ∧
      (xb.toNat % 64 < 32 →
        decodeIdx (xb :: e :: f :: rest) = .ok (.n5 r (BitVec.ofNat 5 (xb.toNat % 32)), e :: f :: rest)) ∧
      (32 ≤ xb.toNat % 64 → xb.toNat < 192 → ∃ ar : AutoBase,
        ar = (if r = .x then .x else if r = .y then .y else .sp) ∧
        decodeIdx (xb :: e :: f :: rest) =
          .ok (.auto ar (decide (16 ≤ xb.toNat % 32)) (BitVec.ofNat 4 (xb.toNat % 16)), e :: f :: rest)) ∧
      (224 ≤ xb.toNat →
        decodeIdx (xb :: e :: f :: rest) =
          if xb.toNat % 8 = 0 then .ok (.n9 r (BitVec.ofNat 9 e.toNat), f :: rest)
          else if xb.toNat % 8 = 1 then .ok (.n9 r (BitVec.ofNat 9 (256 + e.toNat)), f :: rest)
          else if xb.toNat % 8 = 2 then .ok (.n16 r (BitVec.ofNat 16 (256 * e.toNat + f.toNat)), rest)
          else if xb.toNat % 8 = 3 then .ok (.indN16 r (BitVec.ofNat 16 (256 * e.toNat + f.toNat)), rest)
          else if xb.toNat % 8 = 4 then .ok (.acc r .a, e :: f :: rest)
          else if xb.toNat % 8 = 5 then .ok (.acc r .b, e :: f :: rest)
          else if xb.toNat % 8 = 6 then .ok (.acc r .d, e :: f :: rest)
          else .ok (.indD r, e :: f :: rest))

/-- Words written out from the encodings of their rules decode to their instructions (a sanity statement). -/
def Obligations.WordsOfTheRulesDecode : Prop :=
  decode [0x86#8, 0x80#8] = .ok (.ldaa (.imm 0x80#8), []) ∧
  decode [0xA6#8, 0xE3#8, 0x10#8, 0x00#8] = .ok (.ldaa (.mem (.idx (.indN16 .x 0x1000#16))), []) ∧
  decode [0x6C#8, 0xAE#8] = .ok (.std (.idx (.auto .sp false 14#4)), []) ∧
  decode [0xB7#8, 0x81#8] = .ok (.exg (.r8 .a) (.r8 .b), []) ∧
  decode [0x18#8, 0x0A#8, 0x30#8, 0x70#8] = .ok (.movb (.idx (.auto .x true 0#4)) (.idx (.auto .y true 0#4)), []) ∧
  decode [0x18#8, 0x39#8] = .ok (.pshcw, []) ∧
  decode [0xF3#8, 0x10#8, 0x02#8] = .ok (.addd (.mem (.ext 0x1002#16)), []) ∧
  decode [0x18#8, 0x15#8] = .ok (.idivs, []) ∧
  decode [0x75#8, 0x10#8, 0x00#8] = .ok (.rol (.ext 0x1000#16), []) ∧
  decode [0xA7#8] = .error .notInScope ∧
  decode [0x86#8] = .error .truncated

/-- The bytes the opcode maps give no in-scope instruction are refused by name: each `.` of page 1, each
unlisted byte of page 2, a register postbyte with bit 3 set or code 3 (R74, R75, R93, R104). -/
def Obligations.BytesOfNoRowAreNotInScope : Prop :=
  (∀ (op : Byte) (rest : List Byte),
    op.toNat ∈ [0x00, 0x01, 0x04, 0x05, 0x06, 0x07, 0x0A, 0x0B, 0x0C, 0x0D, 0x0E, 0x0F, 0x15, 0x16, 0x17, 0x1C, 0x1D,
      0x1E, 0x1F, 0x3C, 0x3D, 0x3E, 0x3F, 0x4A, 0x4B, 0x4C, 0x4D, 0x4E, 0x4F, 0x85, 0x95, 0xA5, 0xA7, 0xB5, 0xC5, 0xD5,
      0xE5, 0xF5] ∨ op.toNat / 16 = 2 → decode (op :: rest) = .error .notInScope) ∧
  (∀ (op : Byte) (rest : List Byte),
    (op.toNat = 0x07 ∨ op.toNat = 0x12 ∨ (0x18 ≤ op.toNat ∧ op.toNat ≠ 0x38 ∧ op.toNat ≠ 0x39)) →
      decode (0x18#8 :: op :: rest) = .error .notInScope) ∧
  (∀ (eb : Byte) (rest : List Byte),
    (eb.toNat / 8 % 2 = 1 ∨ eb.toNat % 8 = 3 ∨ eb.toNat / 16 % 8 = 3) →
      decode (0xB7#8 :: eb :: rest) = .error .notInScope)

/-- Each alias has the bytes R98 lists and means, in every state, what the general instruction it stands for means;
and the decoder's one name for shared bytes, for well-formed instructions and others, changes no meaning and no byte
(R98, R99, R334). -/
def Obligations.AliasesAreTheirGeneralInstruction : Prop :=
  (∀ p ∈ [(Instr.tap, Instr.tfr (.r8 .a) (.r8 .ccr), [0xB7#8, 0x02#8]),
      (.tpa, .tfr (.r8 .ccr) (.r8 .a), [0xB7#8, 0x20#8]),
      (.tsx, .tfr (.r16 .sp) (.r16 .x), [0xB7#8, 0x75#8]),
      (.tsy, .tfr (.r16 .sp) (.r16 .y), [0xB7#8, 0x76#8]),
      (.txs, .tfr (.r16 .x) (.r16 .sp), [0xB7#8, 0x57#8]),
      (.tys, .tfr (.r16 .y) (.r16 .sp), [0xB7#8, 0x67#8]),
      (.xgdx, .exg (.r16 .d) (.r16 .x), [0xB7#8, 0xC5#8]),
      (.xgdy, .exg (.r16 .d) (.r16 .y), [0xB7#8, 0xC6#8]),
      (.clc, .andcc 0xFE#8, [0x10#8, 0xFE#8]),
      (.cli, .andcc 0xEF#8, [0x10#8, 0xEF#8]),
      (.clv, .andcc 0xFD#8, [0x10#8, 0xFD#8]),
      (.abx, .leax (.acc .x .b), [0x1A#8, 0xE5#8]),
      (.aby, .leay (.acc .y .b), [0x19#8, 0xED#8]),
      (.des, .leas (.n5 .sp 31#5), [0x1B#8, 0x9F#8]),
      (.ins, .leas (.n5 .sp 1#5), [0x1B#8, 0x81#8])],
    encode p.1 = p.2.2 ∧ encode p.2.1 = p.2.2 ∧ ∀ s, exec p.1 s = exec p.2.1 s) ∧
  (∀ (r1 : Reg8) (r2 : Reg16), encode (.sex r1 r2) = encode (.tfr (.r8 r1) (.r16 r2)) ∧
    ∀ s, exec (.sex r1 r2) s = exec (.tfr (.r8 r1) (.r16 r2)) s) ∧
  (∀ (i : Instr) (s : State), exec (canonical i) s = exec i s ∧ encode (canonical i) = encode i)

/-! ## The step -/

/-- When the bytes at PC, all program text and admitted, decode to an instruction and the run is not over, the
step is the instruction's meaning and nothing else (R6, R63, R71). -/
def Obligations.StepRunsTheDecodedInstruction : Prop :=
  ∀ (s : State) (bs rest : List Byte) (i : Instr),
    s.pc ≠ s.launch.endPc → bs.length ≤ 6 → ProgramBytes s bs → decode bs = .ok (i, rest) → step s = exec i s

/-- Every stop that comes before an instruction's own, in the order of R374: the end of the run; an instruction byte
outside the program text; bytes with no row; an operand pattern the spec shuts out, of a move by the step itself, of
another instruction by its meaning; an instruction byte that is not admitted (R63, R95, R96, R97, R104, R374, R377,
R383). That the end of the run is a fault is the model's form of it (notes/assumptions/14.md), and that the fetch
needs its bytes admitted is the model's choice (notes/assumptions/15.md). -/
def Obligations.StepStopsBeforeExecuting : Prop :=
  ∀ s : State,
    (s.pc = s.launch.endPc → step s = .fault .runEnded) ∧
    (s.pc ≠ s.launch.endPc → ∀ bs : List Byte, bs.length ≤ 6 → TextBytes s bs →
      (decode bs = .error .truncated → s.launch.inCode (s.nextPc bs.length) = false →
        step s = .refused .fetchOutsideCode) ∧
      (decode bs = .error .notInScope → step s = .refused .notInScope) ∧
      (decode bs = .error .moveIndexedForm → step s = .refused .moveIndexedForm) ∧
      (∀ i rest, decode bs = .ok (i, rest) →
        (WellFormed i = false → step s = exec i s) ∧
        (WellFormed i = true → ∀ k, k < byteLength i → s.launch.admits (s.nextPc k) = false →
          step s = .fault .stuck)))

/-! ## Invariants -/

/-- Every step from a state with canonical memory leaves canonical memory. -/
def Obligations.StepKeepsMemoryCanonical : Prop :=
  ∀ s t : State, MemoryCanonical s → step s = .next t → MemoryCanonical t

/-- After reset: memory has its canonical form, the run is not over, and operand values with no stated result are
refused by name. The last is the spec's rule (R145, R296, R376); the values behind the others are the model's choice, the
spec gives none (R390; notes/assumptions/3.md to 7.md). -/
def Obligations.ResetIsCanonicalAndRuns : Prop :=
  MemoryCanonical State.reset ∧ ¬Ended State.reset ∧ State.reset.launch.inCode State.reset.pc = true ∧
    State.reset.launch.refuseUnstated = true

/-- No step changes a byte of the program text, nor the text's range, nor any parameter (R63, R7). -/
def Obligations.StepKeepsProgramText : Prop :=
  ∀ s t : State, step s = .next t →
    t.launch = s.launch ∧ ∀ a : Word, s.launch.inCode a = true → t.byteAt a = s.byteAt a

/-- Every instruction that completes leaves PC at the address after its own bytes, modulo 2^16 (R13, R27). -/
def Obligations.CompletionAdvancesPcByTheLength : Prop :=
  ∀ (i : Instr) (s t : State), exec i s = .next t →
    t.pc.toNat = (s.pc.toNat + (encode i).length) % 65536

/-- No step sets the X bit of CCR (R30). -/
def Obligations.StepNeverSetsX : Prop :=
  ∀ s t : State, s.ccr.getLsbD 6 = false → step s = .next t → t.ccr.getLsbD 6 = false

/-- CCR_H is read by PSHCW and written by PULCW alone: every other instruction does the same whatever CCR_H holds and
leaves it, PSHCW leaves it, and PULCW keeps every bit outside CCRH_WRITE_MASK (R31). -/
def Obligations.CcrhBelongsToPshcwAndPulcw : Prop :=
  (∀ (i : Instr) (s : State) (h : Byte), i ≠ .pshcw → i ≠ .pulcw →
    exec i { s with ccrh := h } = mapNext (fun t => { t with ccrh := h }) (exec i s)) ∧
  (∀ s t : State, exec .pshcw s = .next t → t.ccrh = s.ccrh) ∧
  (∀ s t : State, exec .pulcw s = .next t →
    ∀ k, s.launch.ccrhMask.getLsbD k = false → t.ccrh.getLsbD k = s.ccrh.getLsbD k)

/-- The instructions that write no memory by R56 leave all of it as it was. -/
def Obligations.NonWritersKeepMemory : Prop :=
  ∀ (i : Instr) (s t : State), writesMemory i = false → exec i s = .next t → t.mem = s.mem

/-- The instructions that change no condition code by R29 leave CCR as it was. -/
def Obligations.CcrKeepersKeepCcr : Prop :=
  ∀ (i : Instr) (s t : State), keepsCcr i = true → exec i s = .next t → t.ccr = s.ccr

/-- With every address admitted, none of it program text, and unstated results taken as free values (the model's
choice, notes/assumptions/9.md), every well-formed instruction completes: no trap, no stop (R14, R370). -/
def Obligations.EveryWellFormedInstructionCompletes : Prop :=
  ∀ (i : Instr) (s : State), WellFormed i = true → OpenLaunch s → ∃ t, exec i s = .next t

/-- The operand patterns the spec shuts out are refused by their names in every state: a stepped base that is the
instruction's register operand, the automatic and indirect modes of LEA, and the moves' extension bytes, `[D,r]` and
PC base (R95, R96, R97, R104). -/
def Obligations.ShutOutOperandsAreRefused : Prop :=
  ∀ (s : State) (post : Bool) (n : BitVec 4),
    (∀ i ∈ [Instr.lds (.mem (.idx (.auto .sp post n))), .sts (.idx (.auto .sp post n)),
        .cps (.mem (.idx (.auto .sp post n))), .ldx (.mem (.idx (.auto .x post n))), .stx (.idx (.auto .x post n)),
        .cpx (.mem (.idx (.auto .x post n))), .ldy (.mem (.idx (.auto .y post n))), .sty (.idx (.auto .y post n)),
        .cpy (.mem (.idx (.auto .y post n)))], exec i s = .refused .baseIsOperand) ∧
    (∀ (r : AutoBase) (b : Base) (w : Word), ∀ x ∈ [Idx.auto r post n, .indN16 b w, .indD b],
        ∀ i ∈ [Instr.leas x, .leax x, .leay x], exec i s = .refused .leaForm) ∧
    (∀ (b : Base) (o : BitVec 9) (w : Word) (m : BitVec 5) (c : AccOffset),
      ∀ x ∈ [Idx.n9 b o, .n16 b w, .indN16 b w, .indD b, .n5 .pc m, .acc .pc c],
      (∀ (src : MovSrc8), exec (.movb src (.idx x)) s = .refused .moveIndexedForm) ∧
      (∀ (dst : MovDst), exec (.movb (.idx x) dst) s = .refused .moveIndexedForm) ∧
      (∀ (src : MovSrc16), exec (.movw src (.idx x)) s = .refused .moveIndexedForm) ∧
      (∀ (dst : MovDst), exec (.movw (.idx x) dst) s = .refused .moveIndexedForm))

/-- Those are all: an instruction is refused for its operand pattern in every state or in none, by one name, and it is
refused so exactly where it is not well-formed (R95, R96, R97, R104). -/
def Obligations.OnlyShutOutOperandsAreRefusedByForm : Prop :=
  ∀ i : Instr,
    (WellFormed i = false →
      ∃ r ∈ [Refusal.moveIndexedForm, .baseIsOperand, .leaForm], ∀ s, exec i s = .refused r) ∧
    (WellFormed i = true → ∀ s, ∀ r ∈ [Refusal.moveIndexedForm, .baseIsOperand, .leaForm, .notInScope],
      exec i s ≠ .refused r)

/-! ## Operands and memory -/

/-- The effective addresses that need no memory, all modulo 2^16: direct, extended, constant and accumulator offsets,
which change nothing, A and B as unsigned offsets; and automatic increment and decrement, whose step is +1 to +8 or -8
to -1, whose register takes it once and is the only thing changed, and whose address is the new value (pre) or the old
one (post); a base is X, Y, SP or, as PC, the address after the instruction. Every operand with an extended or indexed
form has these addresses: a load's or store's, that of CLR, TST and the read-modify-write instructions, a move's
destination (R58, R80 to R88, R94). -/
def Obligations.AddressesWithoutMemory : Prop :=
  ∀ (s : State) (next : Word) (r : Base),
    (∀ dd : Byte, ∃ a, resolveEa (.dir dd) next s = .ok (a, s) ∧ a.toNat = dd.toNat) ∧
    (∀ hhll : Word, resolveEa (.ext hhll) next s = .ok (hhll, s) ∧ resolveEaXI (.ext hhll) next s = .ok (hhll, s) ∧
      resolveMovDst (.ext hhll) next s = .ok (hhll, s)) ∧
    (∀ i : Idx, resolveEa (.idx i) next s = resolveIdx i next s ∧ resolveEaXI (.idx i) next s = resolveIdx i next s ∧
      resolveMovDst (.idx i) next s = resolveIdx i next s) ∧
    (∀ n : BitVec 5, ∃ a, resolveIdx (.n5 r n) next s = .ok (a, s) ∧
      (a.toNat : Int) = ((baseValue s next r).toNat + n.toInt) % 65536) ∧
    (∀ n : BitVec 9, ∃ a, resolveIdx (.n9 r n) next s = .ok (a, s) ∧
      (a.toNat : Int) = ((baseValue s next r).toNat + n.toInt) % 65536) ∧
    (∀ n : Word, ∃ a, resolveIdx (.n16 r n) next s = .ok (a, s) ∧
      (a.toNat : Int) = ((baseValue s next r).toNat + n.toInt) % 65536) ∧
    (∀ o : AccOffset, ∃ a, resolveIdx (.acc r o) next s = .ok (a, s) ∧
      a.toNat = ((baseValue s next r).toNat + (match o with
        | .a => s.a.toNat
        | .b => s.b.toNat
        | .d => dNat s)) % 65536) ∧
    (∀ (ar : AutoBase) (post : Bool) (n : BitVec 4), ∃ (new : Word) (k : Int),
      k = (if n.toNat ≤ 7 then (n.toNat : Int) + 1 else n.toNat - 16) ∧
      (new.toNat : Int) = ((autoValue s ar).toNat + k) % 65536 ∧
      resolveIdx (.auto ar post n) next s = .ok (if post then autoValue s ar else new, match ar with
        | .x => { s with x := new }
        | .y => { s with y := new }
        | .sp => { s with sp := new }))

/-- The indirect modes: the address is the word, high byte first, at base plus offset, PC as a base being the address
after the instruction; a pointer byte that is not admitted leaves the instruction stuck (R51, R83, R89, R90). -/
def Obligations.IndirectAddresses : Prop :=
  ∀ (s : State) (next : Word) (r : Base) (n : Word) (ptr : Word) (i : Idx),
    (i = .indN16 r n ∧ (ptr.toNat : Int) = ((baseValue s next r).toNat + n.toInt) % 65536 ∨
      i = .indD r ∧ ptr.toNat = ((baseValue s next r).toNat + dNat s) % 65536) →
    (Readable16 s ptr → ∃ a, resolveIdx i next s = .ok (a, s) ∧ a.toNat = wordNat s ptr) ∧
    (¬Readable16 s ptr → resolveIdx i next s = .error (.fault .stuck))

/-- The fetch of an operand: an immediate as it is; else the byte or word at the effective address, which must be
admitted, as must the pointer that gives the address. A move's source is fetched in the same way (R51, R52, R80, R92,
R94, R158, R159). -/
def Obligations.OperandFetch : Prop :=
  ∀ (s s1 : State) (next a : Word) (ea : Ea),
    (∀ v, fetchSrc8 (.imm v) next s = .ok (v, s) ∧ fetchMovSrc8 (.imm v) next s = .ok (v, s)) ∧
    (∀ v, fetchSrc16 (.imm v) next s = .ok (v, s) ∧ fetchMovSrc16 (.imm v) next s = .ok (v, s)) ∧
    (∀ hhll : Word, fetchMovSrc8 (.ext hhll) next s = fetchSrc8 (.mem (.ext hhll)) next s ∧
      fetchMovSrc16 (.ext hhll) next s = fetchSrc16 (.mem (.ext hhll)) next s) ∧
    (∀ i : Idx, fetchMovSrc8 (.idx i) next s = fetchSrc8 (.mem (.idx i)) next s ∧
      fetchMovSrc16 (.idx i) next s = fetchSrc16 (.mem (.idx i)) next s) ∧
    (∀ e, resolveEa ea next s = .error e →
      fetchSrc8 (.mem ea) next s = .error (.fault .stuck) ∧ fetchSrc16 (.mem ea) next s = .error (.fault .stuck)) ∧
    (resolveEa ea next s = .ok (a, s1) →
      s1.mem = s.mem ∧ s1.launch = s.launch ∧
      (s.launch.admits a = true → fetchSrc8 (.mem ea) next s = .ok (s.byteAt a, s1)) ∧
      (s.launch.admits a = false → fetchSrc8 (.mem ea) next s = .error (.fault .stuck)) ∧
      (Readable16 s a → ∃ v, fetchSrc16 (.mem ea) next s = .ok (v, s1) ∧ v.toNat = wordNat s a) ∧
      (¬Readable16 s a → fetchSrc16 (.mem ea) next s = .error (.fault .stuck)))

/-- A 16-bit value at address `a` is held with its more significant byte at `a`, its less significant byte at
`a + 1`, for reads and for writes, whatever the address (R52). -/
def Obligations.WordsAreBigEndian : Prop :=
  ∀ (s : State) (a v : Word), Readable16 s a →
    (∃ w, readWord s a = .ok w ∧ w.toNat = (s.byteAt a).toNat * 256 + (s.byteAt (a + 1#16)).toNat) ∧
    (Writable16 s a → ∃ t, writeWord s a v = .ok t ∧
      (t.byteAt a).toNat = v.toNat / 256 ∧ (t.byteAt (a + 1#16)).toNat = v.toNat % 256 ∧
      readWord t a = .ok v ∧ ∀ b, b ≠ a → b ≠ a + 1#16 → t.byteAt b = s.byteAt b)

/-- An access answers as a whole: one byte not admitted and it is stuck; else, for a write, one byte in the program
text and it is refused; else it answers (R51, R59, R63, R374, R377). -/
def Obligations.AccessesAreWhole : Prop :=
  ∀ (s : State) (a v : Word) (b : Byte),
    (s.launch.admits a = false → readByte s a = .error (.fault .stuck) ∧ writeByte s a b = .error (.fault .stuck)) ∧
    (s.launch.admits a = true → readByte s a = .ok (s.byteAt a) ∧
      (s.launch.inCode a = true → writeByte s a b = .error (.refused .writeToCode)) ∧
      (s.launch.inCode a = false → ∃ t, writeByte s a b = .ok t ∧
        ∀ c, t.byteAt c = if c = a then b else s.byteAt c)) ∧
    (¬Readable16 s a → readWord s a = .error (.fault .stuck) ∧ writeWord s a v = .error (.fault .stuck)) ∧
    (Readable16 s a → (∃ w, readWord s a = .ok w) ∧
      (s.launch.inCode a = true ∨ s.launch.inCode (a + 1#16) = true →
        writeWord s a v = .error (.refused .writeToCode)) ∧
      (s.launch.inCode a = false → s.launch.inCode (a + 1#16) = false → ∃ t, writeWord s a v = .ok t))

/-! ## Loads, stores, load effective address -/

/-- LDAA, LDAB complete on a readable operand: the accumulator takes the byte, N and Z tell of it, V is cleared;
the operand's automatic step apart, nothing else changes. On any other operand they are stuck (R51, R111, R112, R113,
R377). -/
def Obligations.ByteLoads : Prop :=
  ∀ (op : Src8) (s : State),
    (∀ (s1 : State) (v : Byte), Reads8 op s v s1 →
      CompletesTo (.ldaa op) s { s1 with a := v } (byteRow v) ∧
      CompletesTo (.ldab op) s { s1 with b := v } (byteRow v)) ∧
    (Unreadable8 op s → ∀ i ∈ [Instr.ldaa op, .ldab op], exec i s = .fault .stuck)

/-- LDD, LDX, LDY, LDS complete on a readable operand, which for LDX, LDY, LDS does not step the register loaded
(R96): the register takes the word, D as A the high byte and B the low byte. On any other operand they are stuck (R51,
R111, R114 to R117, R377). -/
def Obligations.WordLoads : Prop :=
  ∀ (op : Src16) (s : State),
    (∀ (s1 : State) (v : Word), Reads16 op s v s1 →
      CompletesTo (.ldd op) s { s1 with a := BitVec.ofNat 8 (v.toNat / 256), b := BitVec.ofNat 8 (v.toNat % 256) }
        (wordRow v) ∧
      (op.stepsBase .sp = false → CompletesTo (.lds op) s { s1 with sp := v } (wordRow v)) ∧
      (op.stepsBase .x = false → CompletesTo (.ldx op) s { s1 with x := v } (wordRow v)) ∧
      (op.stepsBase .y = false → CompletesTo (.ldy op) s { s1 with y := v } (wordRow v))) ∧
    (Unreadable16 op s →
      exec (.ldd op) s = .fault .stuck ∧
      (op.stepsBase .sp = false → exec (.lds op) s = .fault .stuck) ∧
      (op.stepsBase .x = false → exec (.ldx op) s = .fault .stuck) ∧
      (op.stepsBase .y = false → exec (.ldy op) s = .fault .stuck))

/-- LEAS, LEAX, LEAY complete with every admitted form: the register takes the effective address, no memory is
needed and no flag changes (R97, R118 to R121). -/
def Obligations.LoadEffectiveAddresses : Prop :=
  ∀ (i : Idx) (s s1 : State) (a : Word), i.leaForm = true →
    resolveIdx i (nextOf (.leax i) s) s = .ok (a, s1) →
    CompletesTo (.leas i) s { s with sp := a } {} ∧
    CompletesTo (.leax i) s { s with x := a } {} ∧
    CompletesTo (.leay i) s { s with y := a } {}

/-- STAA, STAB complete where the effective address is writable: the byte there becomes the accumulator, no other
byte changes, N and Z tell of it, V is cleared. Where that byte or a pointer byte is not admitted they are stuck, where
it is program text they are refused (R51, R63, R111, R122, R123, R124, R377). -/
def Obligations.ByteStores : Prop :=
  ∀ (ea : Ea) (s : State),
    (∀ (s1 : State) (a : Word), EaOf ea s a s1 →
      (Writable s a → StoresByteTo (.staa ea) s s1 a s.a (byteRow s.a) ∧
        StoresByteTo (.stab ea) s s1 a s.b (byteRow s.b)) ∧
      ∀ i ∈ [Instr.staa ea, .stab ea], StopsWritingByte i s a) ∧
    (NoAddress ea s → ∀ i ∈ [Instr.staa ea, .stab ea], exec i s = .fault .stuck)

/-- STD, STS, STX, STY complete where both bytes at the effective address are writable and the operand does not
step the register stored (R96): the two bytes become the register, high byte first, no other byte changes. Where one of
them or a pointer byte is not admitted they are stuck, else where one is program text they are refused, as a whole (R51,
R63, R111, R122, R125 to R128, R377). -/
def Obligations.WordStores : Prop :=
  ∀ (ea : Ea) (s : State),
    (∀ (s1 : State) (a : Word), EaOf ea s a s1 →
      (Writable16 s a →
        (∀ d : Word, d.toNat = dNat s → StoresWordTo (.std ea) s s1 a d (wordRow d)) ∧
        (ea.stepsBase .sp = false → StoresWordTo (.sts ea) s s1 a s.sp (wordRow s.sp)) ∧
        (ea.stepsBase .x = false → StoresWordTo (.stx ea) s s1 a s.x (wordRow s.x)) ∧
        (ea.stepsBase .y = false → StoresWordTo (.sty ea) s s1 a s.y (wordRow s.y))) ∧
      StopsWritingWord (.std ea) s a ∧
      (ea.stepsBase .sp = false → StopsWritingWord (.sts ea) s a) ∧
      (ea.stepsBase .x = false → StopsWritingWord (.stx ea) s a) ∧
      (ea.stepsBase .y = false → StopsWritingWord (.sty ea) s a)) ∧
    (NoAddress ea s → ∀ i ∈ [Instr.std ea, .sts ea, .stx ea, .sty ea], exec i s = .fault .stuck)

/-! ## Transfers, exchanges, moves -/

/-- TFR completes between all registers: same width as it is, 16 to 8 bits the low byte, 8 to 16 bits
sign-extended; a transfer to CCR loads every bit but cannot set X; else no flag changes. TAB and TBA complete: N and Z
tell of the byte, V is cleared, C and H are kept (R30, R144, R147, R148). -/
def Obligations.RegisterTransfers : Prop :=
  ∀ s : State,
    CompletesTo .tab s { s with b := s.a } (byteRow s.a) ∧ CompletesTo .tba s { s with a := s.b } (byteRow s.b) ∧
    (∀ (p : Reg8) (q : Reg8), q ≠ .ccr → CompletesTo (.tfr (.r8 p) (.r8 q)) s (s.set8 q (s.get8 p)) {}) ∧
    (∀ (p : Reg16) (q : Reg8) (v : Byte), q ≠ .ccr → v.toNat = (s.get16 p).toNat % 256 →
      CompletesTo (.tfr (.r16 p) (.r8 q)) s (s.set8 q v) {}) ∧
    (∀ (p : Reg16) (q : Reg16), CompletesTo (.tfr (.r16 p) (.r16 q)) s (s.set16 q (s.get16 p)) {}) ∧
    (∀ (p : Reg8) (q : Reg16) (w : Word), w.toInt = (s.get8 p).toInt →
      CompletesTo (.tfr (.r8 p) (.r16 q)) s (s.set16 q w) {}) ∧
    (∀ p : Reg8, CompletesLoadingCcr (.tfr (.r8 p) (.r8 .ccr)) s s (s.get8 p)) ∧
    (∀ (p : Reg16) (v : Byte), v.toNat = (s.get16 p).toNat % 256 →
      CompletesLoadingCcr (.tfr (.r16 p) (.r8 .ccr)) s s v)

/-- SEX completes for A, B, CCR to D, X, Y, SP: the destination takes the word of the same signed value, and no
flag changes (R142, R146). -/
def Obligations.SignExtension : Prop :=
  ∀ (p : Reg8) (q : Reg16) (s : State), ∃ w : Word, w.toInt = (s.get8 p).toInt ∧
    CompletesTo (.sex p q) s (s.set16 q w) {}

/-- EXG between registers of one width completes: each takes the other's old value, every other register is as it
was; with CCR, its new value is loaded but X cannot be set (R30, R141, R145). -/
def Obligations.SameWidthExchange : Prop :=
  ∀ s : State,
    (∀ p q : Reg16, ∃ t : State, CompletesTo (.exg (.r16 p) (.r16 q)) s t {} ∧
      t.get16 p = s.get16 q ∧ t.get16 q = s.get16 p ∧ (∀ r, r ≠ p → r ≠ q → t.get16 r = s.get16 r) ∧
      t.ccrh = s.ccrh ∧ t.mem = s.mem ∧ t.launch = s.launch ∧ t.freeCount = s.freeCount) ∧
    CompletesTo (.exg (.r8 .a) (.r8 .a)) s s {} ∧ CompletesTo (.exg (.r8 .b) (.r8 .b)) s s {} ∧
    CompletesTo (.exg (.r8 .ccr) (.r8 .ccr)) s s {} ∧
    CompletesTo (.exg (.r8 .a) (.r8 .b)) s { s with a := s.b, b := s.a } {} ∧
    CompletesTo (.exg (.r8 .b) (.r8 .a)) s { s with a := s.b, b := s.a } {} ∧
    CompletesLoadingCcr (.exg (.r8 .a) (.r8 .ccr)) s { s with a := s.ccr } s.a ∧
    CompletesLoadingCcr (.exg (.r8 .ccr) (.r8 .a)) s { s with a := s.ccr } s.a ∧
    CompletesLoadingCcr (.exg (.r8 .b) (.r8 .ccr)) s { s with b := s.ccr } s.b ∧
    CompletesLoadingCcr (.exg (.r8 .ccr) (.r8 .b)) s { s with b := s.ccr } s.b

/-- EXG between an 8-bit and a 16-bit register, in either order: under `refuseUnstated` it is refused by its name,
as R145 has it; else both registers take some value and nothing else changes but the count of free values. The
second is the model's choice (notes/assumptions/10.md). -/
def Obligations.MixedWidthExchange : Prop :=
  ∀ (p : Reg8) (q : Reg16) (i : Instr) (s : State),
    i = .exg (.r8 p) (.r16 q) ∨ i = .exg (.r16 q) (.r8 p) →
    (s.launch.refuseUnstated = true → exec i s = .refused .mixedSizeExchange) ∧
    (s.launch.refuseUnstated = false → ∃ (v : Byte) (w : Word), exec i s =
      .next { (s.set8 p v).set16 q w with pc := nextOf i s, freeCount := s.freeCount + 2 })

/-- TAP, TPA, TSX, TSY, TXS, TYS, XGDX, XGDY complete, with the bytes their rules give: TAP loads CCR from A but
cannot set X; the others change no flag and only the registers they write (R149 to R156). -/
def Obligations.NamedTransfersAndExchanges : Prop :=
  ∀ s : State,
    (encode .tap = [0xB7#8, 0x02#8] ∧ CompletesLoadingCcr .tap s s s.a) ∧
    (encode .tpa = [0xB7#8, 0x20#8] ∧ CompletesTo .tpa s { s with a := s.ccr } {}) ∧
    (encode .tsx = [0xB7#8, 0x75#8] ∧ CompletesTo .tsx s { s with x := s.sp } {}) ∧
    (encode .tsy = [0xB7#8, 0x76#8] ∧ CompletesTo .tsy s { s with y := s.sp } {}) ∧
    (encode .txs = [0xB7#8, 0x57#8] ∧ CompletesTo .txs s { s with sp := s.x } {}) ∧
    (encode .tys = [0xB7#8, 0x67#8] ∧ CompletesTo .tys s { s with sp := s.y } {}) ∧
    (encode .xgdx = [0xB7#8, 0xC5#8] ∧ CompletesTo .xgdx s
      { s with a := BitVec.ofNat 8 (s.x.toNat / 256), b := BitVec.ofNat 8 (s.x.toNat % 256),
               x := BitVec.ofNat 16 (dNat s) } {}) ∧
    (encode .xgdy = [0xB7#8, 0xC6#8] ∧ CompletesTo .xgdy s
      { s with a := BitVec.ofNat 8 (s.y.toNat / 256), b := BitVec.ofNat 8 (s.y.toNat % 256),
               y := BitVec.ofNat 16 (dNat s) } {})

/-- MOVB, MOVW complete where the source is readable and the destination writable: the source's step is done before
the destination address is computed, the source read whole before the destination is written; only the destination's
bytes change, and no flag does. Where the source or the destination is not admitted they are stuck, else where a
destination byte is program text they are refused (R51, R63, R94, R157 to R159, R377). -/
def Obligations.Moves : Prop :=
  ∀ (dst : MovDst) (s : State), dst.movForm = true →
    (∀ src : MovSrc8, src.movForm = true →
      (∀ (s1 s2 : State) (a : Word) (v : Byte), fetchMovSrc8 src (nextOf (.movb src dst) s) s = .ok (v, s1) →
        resolveMovDst dst (nextOf (.movb src dst) s) s1 = .ok (a, s2) →
        (Writable s a → StoresByteTo (.movb src dst) s s2 a v {}) ∧ StopsWritingByte (.movb src dst) s a) ∧
      ((∀ v s1, fetchMovSrc8 src (nextOf (.movb src dst) s) s ≠ .ok (v, s1)) →
        exec (.movb src dst) s = .fault .stuck)) ∧
    (∀ src : MovSrc16, src.movForm = true →
      (∀ (s1 s2 : State) (a : Word) (v : Word), fetchMovSrc16 src (nextOf (.movw src dst) s) s = .ok (v, s1) →
        resolveMovDst dst (nextOf (.movw src dst) s) s1 = .ok (a, s2) →
        (Writable16 s a → StoresWordTo (.movw src dst) s s2 a v {}) ∧ StopsWritingWord (.movw src dst) s a) ∧
      ((∀ v s1, fetchMovSrc16 src (nextOf (.movw src dst) s) s ≠ .ok (v, s1)) →
        exec (.movw src dst) s = .fault .stuck))

/-! ## Stack -/

/-- DES, INS, ABX, ABY complete: SP less or plus one, X or Y plus the unsigned B, all modulo 2^16, and no flag
changes (R171, R172, R202, R203). -/
def Obligations.PointerArithmetic : Prop :=
  ∀ s : State,
    CompletesTo .des s { s with sp := BitVec.ofNat 16 (s.sp.toNat + 65535) } {} ∧
    CompletesTo .ins s { s with sp := BitVec.ofNat 16 (s.sp.toNat + 1) } {} ∧
    CompletesTo .abx s { s with x := BitVec.ofNat 16 (s.x.toNat + s.b.toNat) } {} ∧
    CompletesTo .aby s { s with y := BitVec.ofNat 16 (s.y.toNat + s.b.toNat) } {}

/-- PSHA, PSHB, PSHC, with the bytes their rules give: where the new SP, one less modulo 2^16, is writable they
complete, the byte there becomes the register, no other byte and no flag changes; where it is not admitted they
are stuck; where it is program text they are refused (R57, R176, R177, R178). -/
def Obligations.BytePushes : Prop :=
  ∀ (s : State) (a : Word), a.toNat = (s.sp.toNat + 65535) % 65536 →
    ∀ p ∈ [(Instr.psha, s.a, [0x36#8]), (.pshb, s.b, [0x37#8]), (.pshc, s.ccr, [0x39#8])],
      encode p.1 = p.2.2 ∧
      (Writable s a → StoresByteTo p.1 s { s with sp := a } a p.2.1 {}) ∧
      (s.launch.admits a = false → exec p.1 s = .fault .stuck) ∧
      (s.launch.admits a = true → s.launch.inCode a = true → exec p.1 s = .refused .writeToCode)

/-- PSHD, PSHX, PSHY, PSHCW, with the bytes their rules give: where both bytes at the new SP, two less modulo 2^16,
are writable they complete, the high byte at the new SP and the low byte after it, no other byte and no flag
changes; else they are stuck or refused as a whole (R57, R179 to R182). -/
def Obligations.WordPushes : Prop :=
  ∀ (s : State) (a d cc : Word), a.toNat = (s.sp.toNat + 65534) % 65536 → d.toNat = dNat s →
    cc.toNat = s.ccrh.toNat * 256 + s.ccr.toNat →
    ∀ p ∈ [(Instr.pshd, d, [0x3B#8]), (.pshx, s.x, [0x34#8]), (.pshy, s.y, [0x35#8]), (.pshcw, cc, [0x18#8, 0x39#8])],
      encode p.1 = p.2.2 ∧
      (Writable16 s a → StoresWordTo p.1 s { s with sp := a } a p.2.1 {}) ∧
      (¬Readable16 s a → exec p.1 s = .fault .stuck) ∧
      (Readable16 s a → s.launch.inCode a = true ∨ s.launch.inCode (a + 1#16) = true →
        exec p.1 s = .refused .writeToCode)

/-- PULA, PULB, PULC, with the bytes their rules give: where SP is admitted they complete, the register takes the
byte SP addresses and SP goes one up modulo 2^16; PULA and PULB change no flag, PULC loads CCR but cannot set X;
memory is as it was; else they are stuck (R57, R183, R184, R185). -/
def Obligations.BytePulls : Prop :=
  ∀ s : State,
    (encode .pula = [0x32#8] ∧ encode .pulb = [0x33#8] ∧ encode .pulc = [0x38#8]) ∧
    (s.launch.admits s.sp = true →
      CompletesTo .pula s { s with a := s.byteAt s.sp, sp := BitVec.ofNat 16 (s.sp.toNat + 1) } {} ∧
      CompletesTo .pulb s { s with b := s.byteAt s.sp, sp := BitVec.ofNat 16 (s.sp.toNat + 1) } {} ∧
      CompletesLoadingCcr .pulc s { s with sp := BitVec.ofNat 16 (s.sp.toNat + 1) } (s.byteAt s.sp)) ∧
    (s.launch.admits s.sp = false → ∀ i ∈ [Instr.pula, .pulb, .pulc], exec i s = .fault .stuck)

/-- PULD, PULX, PULY, PULCW, with the bytes their rules give: where both bytes at SP are admitted they complete,
the register takes the word, high byte from SP, and SP goes two up modulo 2^16; PULCW loads CCR from the low byte but
cannot set X, and CCR_H from the high byte under the write mask; memory is as it was; else they are stuck (R57, R186
to R189). -/
def Obligations.WordPulls : Prop :=
  ∀ s : State,
    (encode .puld = [0x3A#8] ∧ encode .pulx = [0x30#8] ∧ encode .puly = [0x31#8] ∧
      encode .pulcw = [0x18#8, 0x38#8]) ∧
    (Readable16 s s.sp →
      CompletesTo .puld s { s with a := s.byteAt s.sp, b := s.byteAt (s.sp + 1#16),
                                   sp := BitVec.ofNat 16 (s.sp.toNat + 2) } {} ∧
      CompletesTo .pulx s { s with x := BitVec.ofNat 16 (wordNat s s.sp),
                                   sp := BitVec.ofNat 16 (s.sp.toNat + 2) } {} ∧
      CompletesTo .puly s { s with y := BitVec.ofNat 16 (wordNat s s.sp),
                                   sp := BitVec.ofNat 16 (s.sp.toNat + 2) } {} ∧
      ∃ h : Byte, (∀ k, k < 8 → h.getLsbD k =
          if s.launch.ccrhMask.getLsbD k then (s.byteAt s.sp).getLsbD k else s.ccrh.getLsbD k) ∧
        CompletesLoadingCcr .pulcw s { s with ccrh := h, sp := BitVec.ofNat 16 (s.sp.toNat + 2) }
          (s.byteAt (s.sp + 1#16))) ∧
    (¬Readable16 s s.sp → ∀ i ∈ [Instr.puld, .pulx, .puly, .pulcw], exec i s = .fault .stuck)

/-! ## Arithmetic -/

/-- ABA, ADDA, ADDB, ADCA, ADCB complete on a readable operand: the accumulator takes the sum modulo 2^8, H is the
carry out of bit 3, V the signed overflow, C the carry out; the carry in is the C before. On any other operand they are
stuck (R15, R51, R201, R204 to R207, R217, R377). -/
def Obligations.ByteAdditions : Prop :=
  ∀ (op : Src8) (s : State),
    CompletesTo .aba s { s with a := BitVec.ofNat 8 (s.a.toNat + s.b.toNat) } (sumRow8 s.a s.b 0) ∧
    (∀ (s1 : State) (v : Byte), Reads8 op s v s1 →
      CompletesTo (.adda op) s { s1 with a := BitVec.ofNat 8 (s.a.toNat + v.toNat) } (sumRow8 s.a v 0) ∧
      CompletesTo (.addb op) s { s1 with b := BitVec.ofNat 8 (s.b.toNat + v.toNat) } (sumRow8 s.b v 0) ∧
      CompletesTo (.adca op) s { s1 with a := BitVec.ofNat 8 (s.a.toNat + v.toNat + carry s) }
        (sumRow8 s.a v (carry s)) ∧
      CompletesTo (.adcb op) s { s1 with b := BitVec.ofNat 8 (s.b.toNat + v.toNat + carry s) }
        (sumRow8 s.b v (carry s))) ∧
    (Unreadable8 op s → ∀ i ∈ [Instr.adda op, .addb op, .adca op, .adcb op], exec i s = .fault .stuck)

/-- SBA, SUBA, SUBB, SBCA, SBCB complete on a readable operand: the accumulator takes the difference modulo 2^8, V
is the signed overflow, C the borrow; H is kept; the borrow in is the C before. On any other operand they are stuck
(R16, R51, R210 to R214, R217, R377). -/
def Obligations.ByteSubtractions : Prop :=
  ∀ (op : Src8) (s : State),
    CompletesTo .sba s { s with a := BitVec.ofInt 8 ((s.a.toNat : Int) - s.b.toNat) } (diffRow8 s.a s.b 0) ∧
    (∀ (s1 : State) (v : Byte), Reads8 op s v s1 →
      CompletesTo (.suba op) s { s1 with a := BitVec.ofInt 8 ((s.a.toNat : Int) - v.toNat) } (diffRow8 s.a v 0) ∧
      CompletesTo (.subb op) s { s1 with b := BitVec.ofInt 8 ((s.b.toNat : Int) - v.toNat) } (diffRow8 s.b v 0) ∧
      CompletesTo (.sbca op) s { s1 with a := BitVec.ofInt 8 ((s.a.toNat : Int) - v.toNat - carry s) }
        (diffRow8 s.a v (carry s)) ∧
      CompletesTo (.sbcb op) s { s1 with b := BitVec.ofInt 8 ((s.b.toNat : Int) - v.toNat - carry s) }
        (diffRow8 s.b v (carry s))) ∧
    (Unreadable8 op s → ∀ i ∈ [Instr.suba op, .subb op, .sbca op, .sbcb op], exec i s = .fault .stuck)

/-- ADDD, SUBD complete on a readable operand: D takes the sum or difference modulo 2^16, with N, Z, V, C of it; H
is kept. On any other operand they are stuck (R15, R16, R51, R208, R215, R217, R377). -/
def Obligations.WordAdditionAndSubtraction : Prop :=
  ∀ (op : Src16) (s : State),
    (∀ (s1 : State) (v d : Word), d.toNat = dNat s → Reads16 op s v s1 →
      (∃ r : Word, r.toNat = (dNat s + v.toNat) % 65536 ∧
        CompletesTo (.addd op) s { s1 with a := BitVec.ofNat 8 (r.toNat / 256), b := BitVec.ofNat 8 (r.toNat % 256) }
          (sumRow16 d v)) ∧
      (∃ r : Word, (r.toNat : Int) = ((dNat s : Int) - v.toNat) % 65536 ∧
        CompletesTo (.subd op) s { s1 with a := BitVec.ofNat 8 (r.toNat / 256), b := BitVec.ofNat 8 (r.toNat % 256) }
          (diffRow16 d v))) ∧
    (Unreadable16 op s → ∀ i ∈ [Instr.addd op, .subd op], exec i s = .fault .stuck)

/-- DEC, INC complete where the effective address is writable: the byte there goes one down or up modulo 2^8, no
other byte changes; V is set exactly on 0x80 (DEC) or 0x7F (INC); C and H are kept. Where that byte or a pointer byte
is not admitted they are stuck, where it is program text they are refused (R51, R63, R80, R231, R236, R241, R377). -/
def Obligations.MemoryIncrementAndDecrement : Prop :=
  ∀ (ea : EaXI) (s : State),
    (∀ (s1 : State) (a : Word), EaOfXI ea s a s1 →
      (Writable s a → ∀ r q : Byte,
        r.toNat = ((s.byteAt a).toNat + 255) % 256 → q.toNat = ((s.byteAt a).toNat + 1) % 256 →
        StoresByteTo (.dec ea) s s1 a r { byteRow r with v := some (decide ((s.byteAt a).toNat = 128)) } ∧
        StoresByteTo (.inc ea) s s1 a q { byteRow q with v := some (decide ((s.byteAt a).toNat = 127)) }) ∧
      ∀ i ∈ [Instr.dec ea, .inc ea], StopsWritingByte i s a) ∧
    (NoAddressXI ea s → ∀ i ∈ [Instr.dec ea, .inc ea], exec i s = .fault .stuck)

/-- DECA, DECB, INCA, INCB, DEX, DEY, INX, INY complete: one down or up modulo 2^8 or 2^16; the accumulators' forms
write N, Z and V, the index registers' forms Z alone; C and H are kept (R232 to R235, R237 to R241). -/
def Obligations.RegisterIncrementAndDecrement : Prop :=
  ∀ s : State,
    (∀ r : Byte, r.toNat = (s.a.toNat + 255) % 256 →
      CompletesTo .deca s { s with a := r } { byteRow r with v := some (decide (s.a.toNat = 128)) }) ∧
    (∀ r : Byte, r.toNat = (s.b.toNat + 255) % 256 →
      CompletesTo .decb s { s with b := r } { byteRow r with v := some (decide (s.b.toNat = 128)) }) ∧
    (∀ r : Byte, r.toNat = (s.a.toNat + 1) % 256 →
      CompletesTo .inca s { s with a := r } { byteRow r with v := some (decide (s.a.toNat = 127)) }) ∧
    (∀ r : Byte, r.toNat = (s.b.toNat + 1) % 256 →
      CompletesTo .incb s { s with b := r } { byteRow r with v := some (decide (s.b.toNat = 127)) }) ∧
    CompletesTo .dex s { s with x := BitVec.ofNat 16 (s.x.toNat + 65535) } { z := some (decide (s.x.toNat = 1)) } ∧
    CompletesTo .dey s { s with y := BitVec.ofNat 16 (s.y.toNat + 65535) } { z := some (decide (s.y.toNat = 1)) } ∧
    CompletesTo .inx s { s with x := BitVec.ofNat 16 (s.x.toNat + 1) } { z := some (decide (s.x.toNat = 65535)) } ∧
    CompletesTo .iny s { s with y := BitVec.ofNat 16 (s.y.toNat + 1) } { z := some (decide (s.y.toNat = 65535)) }

/-! ## Compare and test -/

/-- A compare is the subtract of the same operands with the accumulator put back: CBA of SBA, CMPA of SUBA, CMPB of
SUBB, CPD of SUBD, in every state, stops included (R250). -/
def Obligations.CompareIsSubtractWithoutTheResult : Prop :=
  ∀ s : State,
    exec .cba s = mapNext (fun t => { t with a := s.a }) (exec .sba s) ∧
    (∀ op : Src8, exec (.cmpa op) s = mapNext (fun t => { t with a := s.a }) (exec (.suba op) s) ∧
      exec (.cmpb op) s = mapNext (fun t => { t with b := s.b }) (exec (.subb op) s)) ∧
    (∀ op : Src16, exec (.cpd op) s = mapNext (fun t => { t with a := s.a, b := s.b }) (exec (.subd op) s))

/-- CBA, CMPA, CMPB, CPD, CPX, CPY, CPS complete on a readable operand, which for CPX, CPY, CPS does not step the
register compared (R96): N, Z, V, C tell of the difference; the operand's step apart, no register and no memory
changes. On any other operand they are stuck (R51, R173, R250, R253 to R259, R377). -/
def Obligations.Compares : Prop :=
  ∀ s : State,
    CompletesTo .cba s s (diffRow8 s.a s.b 0) ∧
    (∀ op : Src8,
      (∀ (s1 : State) (v : Byte), Reads8 op s v s1 →
        CompletesTo (.cmpa op) s s1 (diffRow8 s.a v 0) ∧ CompletesTo (.cmpb op) s s1 (diffRow8 s.b v 0)) ∧
      (Unreadable8 op s → ∀ i ∈ [Instr.cmpa op, .cmpb op], exec i s = .fault .stuck)) ∧
    (∀ op : Src16,
      (∀ (s1 : State) (v d : Word), d.toNat = dNat s → Reads16 op s v s1 →
        CompletesTo (.cpd op) s s1 (diffRow16 d v) ∧
        (op.stepsBase .x = false → CompletesTo (.cpx op) s s1 (diffRow16 s.x v)) ∧
        (op.stepsBase .y = false → CompletesTo (.cpy op) s s1 (diffRow16 s.y v)) ∧
        (op.stepsBase .sp = false → CompletesTo (.cps op) s s1 (diffRow16 s.sp v))) ∧
      (Unreadable16 op s →
        exec (.cpd op) s = .fault .stuck ∧
        (op.stepsBase .x = false → exec (.cpx op) s = .fault .stuck) ∧
        (op.stepsBase .y = false → exec (.cpy op) s = .fault .stuck) ∧
        (op.stepsBase .sp = false → exec (.cps op) s = .fault .stuck)))

/-- TST, TSTA, TSTB complete, TST where the effective address is admitted: N and Z tell of the byte, V and C are
cleared, and nothing is written. Where that byte or a pointer byte is not admitted TST is stuck (R51, R251, R253, R260,
R261, R262, R377). -/
def Obligations.Tests : Prop :=
  ∀ s : State,
    CompletesTo .tsta s s { byteRow s.a with c := some false } ∧
    CompletesTo .tstb s s { byteRow s.b with c := some false } ∧
    (∀ ea : EaXI,
      (∀ (s1 : State) (a : Word), EaOfXI ea s a s1 →
        (s.launch.admits a = true → CompletesTo (.tst ea) s s1 { byteRow (s.byteAt a) with c := some false }) ∧
        (s.launch.admits a = false → exec (.tst ea) s = .fault .stuck)) ∧
      (NoAddressXI ea s → exec (.tst ea) s = .fault .stuck))

/-! ## Clear, complement, negate; bits of CCR -/

/-- CLC, CLI, CLV, ANDCC, ORCC complete: one bit cleared; every bit whose mask bit is 0 cleared; every bit whose mask
bit is 1 set but X; no other register and no memory changes (R272, R273, R274, R315, R320). -/
def Obligations.ConditionCodeMasks : Prop :=
  ∀ s : State,
    CompletesTo .clc s s { c := some false } ∧ CompletesTo .cli s s { i := some false } ∧
    CompletesTo .clv s s { v := some false } ∧
    (∀ ii : Byte, ∃ c : Byte, exec (.andcc ii) s = .next { s with ccr := c, pc := nextOf (.andcc ii) s } ∧
      ∀ k, k < 8 → c.getLsbD k = (s.ccr.getLsbD k && ii.getLsbD k)) ∧
    (∀ ii : Byte, ∃ c : Byte, exec (.orcc ii) s = .next { s with ccr := c, pc := nextOf (.orcc ii) s } ∧
      ∀ k, k < 8 → c.getLsbD k = (s.ccr.getLsbD k || (decide (k ≠ 6) && ii.getLsbD k)))

/-- CLRA, CLRB, COMA, COMB, NEGA, NEGB complete: zero; 255 less the value, with C set; the value's negative modulo
2^8, with V exactly on 0x80 and C exactly off zero (R271, R276, R277, R279, R280, R282, R283). -/
def Obligations.AccumulatorClearComplementNegate : Prop :=
  ∀ s : State,
    CompletesTo .clra s { s with a := 0#8 } { byteRow 0#8 with c := some false } ∧
    CompletesTo .clrb s { s with b := 0#8 } { byteRow 0#8 with c := some false } ∧
    (∀ r : Byte, r.toNat = 255 - s.a.toNat →
      CompletesTo .coma s { s with a := r } { byteRow r with c := some true }) ∧
    (∀ r : Byte, r.toNat = 255 - s.b.toNat →
      CompletesTo .comb s { s with b := r } { byteRow r with c := some true }) ∧
    (∀ r : Byte, r.toNat = (256 - s.a.toNat) % 256 →
      CompletesTo .nega s { s with a := r }
        { byteRow r with v := some (decide (s.a.toNat = 128)), c := some (decide (s.a.toNat ≠ 0)) }) ∧
    (∀ r : Byte, r.toNat = (256 - s.b.toNat) % 256 →
      CompletesTo .negb s { s with b := r }
        { byteRow r with v := some (decide (s.b.toNat = 128)), c := some (decide (s.b.toNat ≠ 0)) })

/-- CLR, COM, NEG complete where the effective address is writable: the byte there becomes zero, 255 less itself, or
its negative modulo 2^8, with the flags of the accumulators' forms; no other byte changes. Where that byte or a pointer
byte is not admitted they are stuck, where it is program text they are refused (R51, R63, R80, R271, R275, R278, R281,
R377). -/
def Obligations.MemoryClearComplementNegate : Prop :=
  ∀ (ea : EaXI) (s : State),
    (∀ (s1 : State) (a : Word), EaOfXI ea s a s1 →
      (Writable s a → ∀ r q : Byte,
        r.toNat = 255 - (s.byteAt a).toNat → q.toNat = (256 - (s.byteAt a).toNat) % 256 →
        StoresByteTo (.clr ea) s s1 a 0#8 { byteRow 0#8 with c := some false } ∧
        StoresByteTo (.com ea) s s1 a r { byteRow r with c := some true } ∧
        StoresByteTo (.neg ea) s s1 a q { byteRow q with
          v := some (decide ((s.byteAt a).toNat = 128)), c := some (decide ((s.byteAt a).toNat ≠ 0)) }) ∧
      ∀ i ∈ [Instr.clr ea, .com ea, .neg ea], StopsWritingByte i s a) ∧
    (NoAddressXI ea s → ∀ i ∈ [Instr.clr ea, .com ea, .neg ea], exec i s = .fault .stuck)

/-! ## Multiply and divide -/

/-- MUL, EMUL, EMULS complete, with the bytes their rules give: the destination holds the whole product, unsigned
or, for EMULS, signed; MUL writes C alone, EMUL and EMULS write N, Z, C (R291, R297, R298, R299). -/
def Obligations.Multiplications : Prop :=
  ∀ s : State,
    (encode .mul = [0x12#8] ∧ encode .emul = [0x13#8] ∧ encode .emuls = [0x18#8, 0x13#8]) ∧
    (∃ hi lo : Byte, hi.toNat * 256 + lo.toNat = s.a.toNat * s.b.toNat ∧
      CompletesTo .mul s { s with a := hi, b := lo } { c := some (decide (128 ≤ lo.toNat)) }) ∧
    (∃ (y : Word) (hi lo : Byte), y.toNat * 65536 + hi.toNat * 256 + lo.toNat = dNat s * s.y.toNat ∧
      CompletesTo .emul s { s with y := y, a := hi, b := lo }
        { n := some (decide (32768 ≤ y.toNat)), z := some (decide (dNat s * s.y.toNat = 0)),
          c := some (decide (128 ≤ hi.toNat)) }) ∧
    (∀ d : Word, d.toNat = dNat s → ∃ (y : Word) (hi lo : Byte),
      y.toInt * 65536 + hi.toNat * 256 + lo.toNat = d.toInt * s.y.toInt ∧
      CompletesTo .emuls s { s with y := y, a := hi, b := lo }
        { n := some (decide (32768 ≤ y.toNat)), z := some (decide (d.toInt * s.y.toInt = 0)),
          c := some (decide (128 ≤ hi.toNat)) })

/-- None of the eight multiplies and divides has an operand byte, and none touches memory: with any other memory it
does the same and leaves that memory (R290). -/
def Obligations.MultiplyAndDivideUseNoMemory : Prop :=
  ∀ i ∈ [Instr.mul, .emul, .emuls, .ediv, .edivs, .fdiv, .idiv, .idivs], ∀ (s : State) (m : Memory),
    exec i { s with mem := m } = mapNext (fun t => { t with mem := m }) (exec i s) ∧
    (∀ t, exec i s = .next t → t.mem = s.mem) ∧
    (encode i).length = if (encode i).head? = some 0x18#8 then 2 else 1

/-- EDIV, IDIV, FDIV complete where their rules give a result (a divisor not zero; for EDIV, Y below it; for FDIV, D
below it): the quotient times the divisor plus the remainder is the dividend and the remainder is below the divisor,
D times 2^16 being FDIV's dividend; V and C are cleared, IDIV and FDIV keep N (R292, R294, R295, R296, R300, R302,
R303). -/
def Obligations.UnsignedDivisions : Prop :=
  ∀ s : State, s.x.toNat ≠ 0 → ∃ q1 r1 q2 r2 q3 r3 : Word,
    (s.y.toNat < s.x.toNat → q1.toNat * s.x.toNat + r1.toNat = s.y.toNat * 65536 + dNat s ∧
      r1.toNat < s.x.toNat ∧ CompletesTo .ediv s ({ s with y := q1 }.setD r1) { wordRow q1 with c := some false }) ∧
    (q2.toNat * s.x.toNat + r2.toNat = dNat s ∧ r2.toNat < s.x.toNat ∧
      CompletesTo .idiv s ({ s with x := q2 }.setD r2) { wordRow q2 with n := none, c := some false }) ∧
    (dNat s < s.x.toNat → q3.toNat * s.x.toNat + r3.toNat = dNat s * 65536 ∧ r3.toNat < s.x.toNat ∧
      CompletesTo .fdiv s ({ s with x := q3 }.setD r3) { wordRow q3 with n := none, c := some false })

/-- EDIVS, IDIVS complete where their rules give a result (a divisor not zero and a quotient of 16 signed bits): the
quotient times the divisor plus the remainder is the dividend, the remainder is smaller than the divisor in
magnitude and zero or of the dividend's sign; V and C are cleared (R292, R293, R295, R296, R301, R304). -/
def Obligations.SignedDivisions : Prop :=
  ∀ (s : State) (n : Int) (d : Word), s.x.toInt ≠ 0 → d.toNat = dNat s →
    n = s.y.toInt * 65536 + d.toNat → ∃ q1 r1 q2 r2 : Word,
    ((∃ q : Int, -32768 ≤ q ∧ q ≤ 32767 ∧ (n - q * s.x.toInt).natAbs < s.x.toInt.natAbs ∧
        0 ≤ (n - q * s.x.toInt) * n) →
      q1.toInt * s.x.toInt + r1.toInt = n ∧ r1.toInt.natAbs < s.x.toInt.natAbs ∧ 0 ≤ r1.toInt * n ∧
      CompletesTo .edivs s ({ s with y := q1 }.setD r1) { wordRow q1 with c := some false }) ∧
    (¬(d.toInt = -32768 ∧ s.x.toInt = -1) →
      q2.toInt * s.x.toInt + r2.toInt = d.toInt ∧ r2.toInt.natAbs < s.x.toInt.natAbs ∧ 0 ≤ r2.toInt * d.toInt ∧
      CompletesTo .idivs s ({ s with x := q2 }.setD r2) { wordRow q2 with c := some false })

/-- A divide by X = 0, and a divide whose quotient does not fit (FDIV: whose dividend is not below its divisor).
Under `refuseUnstated` they are refused by the names of R296. Else they complete with quotient and remainder
unstated, C = 1 on a zero divisor, V = 1 and C = 0 on overflow, V = 1 for FDIV by zero too, N kept by IDIV and FDIV, V =
0 for IDIV, and Z of IDIV and FDIV by zero that of the unstated quotient: the model's choice (notes/assumptions/9.md,
12.md). -/
def Obligations.UnstatedDivisions : Prop :=
  ∀ (s : State) (i : Instr) (byZero : Bool),
    (byZero = true ∧ s.x.toNat = 0 ∧ i ∈ [Instr.ediv, .edivs, .fdiv, .idiv, .idivs] ∨
      byZero = false ∧ s.x.toNat ≠ 0 ∧
        (i = .ediv ∧ s.x.toNat ≤ s.y.toNat ∨ i = .fdiv ∧ s.x.toNat ≤ dNat s ∨
          i = .idivs ∧ dNat s = 32768 ∧ s.x.toNat = 65535 ∨
          i = .edivs ∧ ¬∃ q : Int, -32768 ≤ q ∧ q ≤ 32767 ∧
            (s.y.toInt * 65536 + dNat s - q * s.x.toInt).natAbs < s.x.toInt.natAbs ∧
            0 ≤ (s.y.toInt * 65536 + dNat s - q * s.x.toInt) * (s.y.toInt * 65536 + dNat s))) →
    (s.launch.refuseUnstated = true → exec i s = .refused (if byZero then .divideByZero else .divideOverflow)) ∧
    (s.launch.refuseUnstated = false → ∃ (q r : Word) (n z v : Bool),
      (byZero = false ∨ i = .fdiv → v = true) ∧ (i = .idiv → v = false) ∧
      (byZero = true → i = .idiv ∨ i = .fdiv → z = decide (q.toNat = 0)) ∧
      CompletesTo i s
        ({ s with y := if i = Instr.ediv ∨ i = Instr.edivs then q else s.y,
                  x := if i = Instr.ediv ∨ i = Instr.edivs then s.x else q,
                  freeCount := s.freeCount + 3 }.setD r)
        { n := if i = .idiv ∨ i = .fdiv then none else some n, z := some z, v := some v, c := some byZero })

/-! ## Logic -/

/-- ANDA, ANDB, EORA, EORB, ORAA, ORAB complete on a readable operand: each bit of the accumulator is AND, exclusive
OR or OR of the two bits; N and Z tell of the result, V is cleared, C is kept. On any other operand they are stuck (R51,
R310, R312 to R314, R316 to R319, R377). -/
def Obligations.LogicOnAccumulators : Prop :=
  ∀ (op : Src8) (s : State),
    (∀ (s1 : State) (v r : Byte), Reads8 op s v s1 →
      ((∀ k, k < 8 → r.getLsbD k = (s.a.getLsbD k && v.getLsbD k)) →
        CompletesTo (.anda op) s { s1 with a := r } (byteRow r)) ∧
      ((∀ k, k < 8 → r.getLsbD k = (s.b.getLsbD k && v.getLsbD k)) →
        CompletesTo (.andb op) s { s1 with b := r } (byteRow r)) ∧
      ((∀ k, k < 8 → r.getLsbD k = (s.a.getLsbD k != v.getLsbD k)) →
        CompletesTo (.eora op) s { s1 with a := r } (byteRow r)) ∧
      ((∀ k, k < 8 → r.getLsbD k = (s.b.getLsbD k != v.getLsbD k)) →
        CompletesTo (.eorb op) s { s1 with b := r } (byteRow r)) ∧
      ((∀ k, k < 8 → r.getLsbD k = (s.a.getLsbD k || v.getLsbD k)) →
        CompletesTo (.oraa op) s { s1 with a := r } (byteRow r)) ∧
      ((∀ k, k < 8 → r.getLsbD k = (s.b.getLsbD k || v.getLsbD k)) →
        CompletesTo (.orab op) s { s1 with b := r } (byteRow r))) ∧
    (Unreadable8 op s → ∀ i ∈ [Instr.anda op, .andb op, .eora op, .eorb op, .oraa op, .orab op],
      exec i s = .fault .stuck)

/-! ## Shifts and rotates -/

/-- The one-bit shifts and rotates of A and B complete, LSL under both its names: the result and the carry out of
R332, N and Z of the result, V = N XOR C; nothing else changes (R332, R333, R337, R338, R341, R342, R345, R346, R349,
R350, R352, R353, R355, R356). -/
def Obligations.AccumulatorShifts : Prop :=
  ∀ (s : State) (r : Byte),
    (∀ p ∈ [(Instr.lsla, Instr.lslb), (.asla, .aslb)],
      (r.toNat = 2 * s.a.toNat % 256 → CompletesTo p.1 s { s with a := r } (shiftRow8 r.toNat (128 ≤ s.a.toNat))) ∧
      (r.toNat = 2 * s.b.toNat % 256 → CompletesTo p.2 s { s with b := r } (shiftRow8 r.toNat (128 ≤ s.b.toNat)))) ∧
    (∀ (top : Nat) (la lb : Instr),
      (la = .lsra ∧ lb = .lsrb ∧ top = 0) ∨ (la = .rora ∧ lb = .rorb ∧ top = 128 * carry s) →
      (r.toNat = s.a.toNat / 2 + top →
        CompletesTo la s { s with a := r } (shiftRow8 r.toNat (decide (s.a.toNat % 2 = 1)))) ∧
      (r.toNat = s.b.toNat / 2 + top →
        CompletesTo lb s { s with b := r } (shiftRow8 r.toNat (decide (s.b.toNat % 2 = 1))))) ∧
    (r.toNat = s.a.toNat / 2 + (if 128 ≤ s.a.toNat then 128 else 0) →
      CompletesTo .asra s { s with a := r } (shiftRow8 r.toNat (decide (s.a.toNat % 2 = 1)))) ∧
    (r.toNat = s.b.toNat / 2 + (if 128 ≤ s.b.toNat then 128 else 0) →
      CompletesTo .asrb s { s with b := r } (shiftRow8 r.toNat (decide (s.b.toNat % 2 = 1)))) ∧
    (r.toNat = (2 * s.a.toNat + carry s) % 256 →
      CompletesTo .rola s { s with a := r } (shiftRow8 r.toNat (128 ≤ s.a.toNat))) ∧
    (r.toNat = (2 * s.b.toNat + carry s) % 256 →
      CompletesTo .rolb s { s with b := r } (shiftRow8 r.toNat (128 ≤ s.b.toNat)))

/-- LSLD, ASLD, LSRD complete: D shifted one bit as a whole, bit 7 of B moving into A or back, with the carry out and
the flags of R333 (R332, R333, R339, R343, R347). -/
def Obligations.DoubleShifts : Prop :=
  ∀ (s : State) (hi lo : Byte),
    (hi.toNat * 256 + lo.toNat = 2 * dNat s % 65536 → ∀ i ∈ [Instr.lsld, .asld],
      CompletesTo i s { s with a := hi, b := lo } (shiftRow16 (2 * dNat s % 65536) (32768 ≤ dNat s))) ∧
    (hi.toNat * 256 + lo.toNat = dNat s / 2 →
      CompletesTo .lsrd s { s with a := hi, b := lo } (shiftRow16 (dNat s / 2) (decide (dNat s % 2 = 1))))

/-- The one-bit shifts and rotates of a memory byte complete where the effective address is writable: the byte there
takes the result of R332, no other byte changes, flags as for the accumulators. Where that byte or a pointer byte is not
admitted they are stuck, where it is program text they are refused (R51, R63, R80, R332, R333, R336, R340, R344, R348,
R351, R354, R377). -/
def Obligations.MemoryShifts : Prop :=
  ∀ (ea : EaXI) (s : State),
    (∀ (s1 : State) (a : Word), EaOfXI ea s a s1 →
      (Writable s a → ∀ (m : Nat) (r : Byte), m = (s.byteAt a).toNat →
        (r.toNat = 2 * m % 256 →
          ∀ i ∈ [Instr.lsl ea, .asl ea], StoresByteTo i s s1 a r (shiftRow8 r.toNat (128 ≤ m))) ∧
        (r.toNat = m / 2 → StoresByteTo (.lsr ea) s s1 a r (shiftRow8 r.toNat (decide (m % 2 = 1)))) ∧
        (r.toNat = m / 2 + (if 128 ≤ m then 128 else 0) →
          StoresByteTo (.asr ea) s s1 a r (shiftRow8 r.toNat (decide (m % 2 = 1)))) ∧
        (r.toNat = (2 * m + carry s) % 256 → StoresByteTo (.rol ea) s s1 a r (shiftRow8 r.toNat (128 ≤ m))) ∧
        (r.toNat = m / 2 + 128 * carry s →
          StoresByteTo (.ror ea) s s1 a r (shiftRow8 r.toNat (decide (m % 2 = 1))))) ∧
      ∀ i ∈ [Instr.lsl ea, .asl ea, .lsr ea, .asr ea, .rol ea, .ror ea], StopsWritingByte i s a) ∧
    (NoAddressXI ea s →
      ∀ i ∈ [Instr.lsl ea, .asl ea, .lsr ea, .asr ea, .rol ea, .ror ea], exec i s = .fault .stuck)
end

