-- ==== Sys2Proof/Laws/Flags.lean ====
section
/-! SUPPORT. What a flag update and WriteCCR do to each bit of CCR. -/

namespace Sys2Proof.Machine

theorem putBitIf_getLsbD (v : Byte) (i k : Nat) (o : Option Bool) (hi : i < 8) (hk : k < 8) :
    (putBitIf v i o).getLsbD k = if k = i then o.getD (v.getLsbD k) else v.getLsbD k := by
  cases o with
  | none => simp [putBitIf]
  | some b => simp only [putBitIf, putBit_getLsbD v i k b hi hk, Option.getD_some]

theorem putBitIf_own (v : Byte) (i : Nat) (o : Option Bool) (hi : i < 8) :
    (putBitIf v i o).getLsbD i = o.getD (v.getLsbD i) := by
  rw [putBitIf_getLsbD v i i o hi hi, if_pos rfl]

theorem putBitIf_other (v : Byte) (i k : Nat) (o : Option Bool) (hi : i < 8) (hk : k < 8) (h : k ≠ i) :
    (putBitIf v i o).getLsbD k = v.getLsbD k := by
  rw [putBitIf_getLsbD v i k o hi hk, if_neg h]

/-- A flag update is its row of R29: the bits it gives are written, the others are kept. -/
theorem applyFlags_row (ccr : Byte) (u : FlagUpdate) : Safety.CcrRow ccr (applyFlags ccr u) u := by
  unfold Safety.CcrRow applyFlags
  refine ⟨?_, ?_, ?_, ?_, ?_, ?_, ?_, ?_⟩ <;>
    simp (disch := decide) only [putBitIf_own, putBitIf_other]

/-- WriteCCR loads every bit, X only from 1 to 0. -/
theorem writtenCcr_loaded (old v : Byte) : Safety.CcrLoaded old v (writtenCcr old v) := by
  intro k hk
  have key : ∀ (v : Byte) (k : Fin 8), (v &&& 0xBF#8).getLsbD k = (if k.1 = 6 then false else v.getLsbD k) ∧
      (v &&& 0x40#8).getLsbD k = (if k.1 = 6 then v.getLsbD 6 else false) := by decide +kernel
  have h1 := (key v ⟨k, hk⟩).1
  have h2 := (key (old &&& v) ⟨k, hk⟩).2
  simp only at h1 h2
  rw [writtenCcr, BitVec.getLsbD_or, h1, h2, BitVec.getLsbD_and]
  by_cases h : k = 6 <;> simp [h]

/-! ## Divides: which of them write N (R29) -/

@[simp] theorem DivideKind.writesN_long : DivideKind.long.writesN = true := rfl

@[simp] theorem DivideKind.writesN_fractional : DivideKind.fractional.writesN = false := rfl

@[simp] theorem DivideKind.writesN_integer : DivideKind.integer.writesN = false := rfl

end Sys2Proof.Machine
end

