-- ==== Sys2Proof/Laws/State.lean ====
section
/-! SUPPORT. One lemma per field per update of the state, and the views `d` and `byteAt` through the updates.
All are true by unfolding, so that no later proof unfolds a record update. -/

namespace Sys2Proof.Machine

section
variable (s : State) (v : Byte)

@[simp] theorem State.setA_a : (s.setA v).a = v := rfl
@[simp] theorem State.setA_b : (s.setA v).b = s.b := rfl
@[simp] theorem State.setA_x : (s.setA v).x = s.x := rfl
@[simp] theorem State.setA_y : (s.setA v).y = s.y := rfl
@[simp] theorem State.setA_sp : (s.setA v).sp = s.sp := rfl
@[simp] theorem State.setA_pc : (s.setA v).pc = s.pc := rfl
@[simp] theorem State.setA_ccr : (s.setA v).ccr = s.ccr := rfl
@[simp] theorem State.setA_ccrh : (s.setA v).ccrh = s.ccrh := rfl
@[simp] theorem State.setA_mem : (s.setA v).mem = s.mem := rfl
@[simp] theorem State.setA_launch : (s.setA v).launch = s.launch := rfl
@[simp] theorem State.setA_freeCount : (s.setA v).freeCount = s.freeCount := rfl
@[simp] theorem State.setA_byteAt (c : Word) : (s.setA v).byteAt c = s.byteAt c := rfl

end

section
variable (s : State) (v : Byte)

@[simp] theorem State.setB_a : (s.setB v).a = s.a := rfl
@[simp] theorem State.setB_b : (s.setB v).b = v := rfl
@[simp] theorem State.setB_x : (s.setB v).x = s.x := rfl
@[simp] theorem State.setB_y : (s.setB v).y = s.y := rfl
@[simp] theorem State.setB_sp : (s.setB v).sp = s.sp := rfl
@[simp] theorem State.setB_pc : (s.setB v).pc = s.pc := rfl
@[simp] theorem State.setB_ccr : (s.setB v).ccr = s.ccr := rfl
@[simp] theorem State.setB_ccrh : (s.setB v).ccrh = s.ccrh := rfl
@[simp] theorem State.setB_mem : (s.setB v).mem = s.mem := rfl
@[simp] theorem State.setB_launch : (s.setB v).launch = s.launch := rfl
@[simp] theorem State.setB_freeCount : (s.setB v).freeCount = s.freeCount := rfl
@[simp] theorem State.setB_byteAt (c : Word) : (s.setB v).byteAt c = s.byteAt c := rfl

end

section
variable (s : State) (v : Word)

@[simp] theorem State.setD_a : (s.setD v).a = hiByte v := rfl
@[simp] theorem State.setD_b : (s.setD v).b = loByte v := rfl
@[simp] theorem State.setD_x : (s.setD v).x = s.x := rfl
@[simp] theorem State.setD_y : (s.setD v).y = s.y := rfl
@[simp] theorem State.setD_sp : (s.setD v).sp = s.sp := rfl
@[simp] theorem State.setD_pc : (s.setD v).pc = s.pc := rfl
@[simp] theorem State.setD_ccr : (s.setD v).ccr = s.ccr := rfl
@[simp] theorem State.setD_ccrh : (s.setD v).ccrh = s.ccrh := rfl
@[simp] theorem State.setD_mem : (s.setD v).mem = s.mem := rfl
@[simp] theorem State.setD_launch : (s.setD v).launch = s.launch := rfl
@[simp] theorem State.setD_freeCount : (s.setD v).freeCount = s.freeCount := rfl
@[simp] theorem State.setD_byteAt (c : Word) : (s.setD v).byteAt c = s.byteAt c := rfl

end

section
variable (s : State) (v : Word)

@[simp] theorem State.setX_a : (s.setX v).a = s.a := rfl
@[simp] theorem State.setX_b : (s.setX v).b = s.b := rfl
@[simp] theorem State.setX_x : (s.setX v).x = v := rfl
@[simp] theorem State.setX_y : (s.setX v).y = s.y := rfl
@[simp] theorem State.setX_sp : (s.setX v).sp = s.sp := rfl
@[simp] theorem State.setX_pc : (s.setX v).pc = s.pc := rfl
@[simp] theorem State.setX_ccr : (s.setX v).ccr = s.ccr := rfl
@[simp] theorem State.setX_ccrh : (s.setX v).ccrh = s.ccrh := rfl
@[simp] theorem State.setX_mem : (s.setX v).mem = s.mem := rfl
@[simp] theorem State.setX_launch : (s.setX v).launch = s.launch := rfl
@[simp] theorem State.setX_freeCount : (s.setX v).freeCount = s.freeCount := rfl
@[simp] theorem State.setX_d : (s.setX v).d = s.d := rfl
@[simp] theorem State.setX_byteAt (c : Word) : (s.setX v).byteAt c = s.byteAt c := rfl

end

section
variable (s : State) (v : Word)

@[simp] theorem State.setY_a : (s.setY v).a = s.a := rfl
@[simp] theorem State.setY_b : (s.setY v).b = s.b := rfl
@[simp] theorem State.setY_x : (s.setY v).x = s.x := rfl
@[simp] theorem State.setY_y : (s.setY v).y = v := rfl
@[simp] theorem State.setY_sp : (s.setY v).sp = s.sp := rfl
@[simp] theorem State.setY_pc : (s.setY v).pc = s.pc := rfl
@[simp] theorem State.setY_ccr : (s.setY v).ccr = s.ccr := rfl
@[simp] theorem State.setY_ccrh : (s.setY v).ccrh = s.ccrh := rfl
@[simp] theorem State.setY_mem : (s.setY v).mem = s.mem := rfl
@[simp] theorem State.setY_launch : (s.setY v).launch = s.launch := rfl
@[simp] theorem State.setY_freeCount : (s.setY v).freeCount = s.freeCount := rfl
@[simp] theorem State.setY_d : (s.setY v).d = s.d := rfl
@[simp] theorem State.setY_byteAt (c : Word) : (s.setY v).byteAt c = s.byteAt c := rfl

end

section
variable (s : State) (v : Word)

@[simp] theorem State.setSp_a : (s.setSp v).a = s.a := rfl
@[simp] theorem State.setSp_b : (s.setSp v).b = s.b := rfl
@[simp] theorem State.setSp_x : (s.setSp v).x = s.x := rfl
@[simp] theorem State.setSp_y : (s.setSp v).y = s.y := rfl
@[simp] theorem State.setSp_sp : (s.setSp v).sp = v := rfl
@[simp] theorem State.setSp_pc : (s.setSp v).pc = s.pc := rfl
@[simp] theorem State.setSp_ccr : (s.setSp v).ccr = s.ccr := rfl
@[simp] theorem State.setSp_ccrh : (s.setSp v).ccrh = s.ccrh := rfl
@[simp] theorem State.setSp_mem : (s.setSp v).mem = s.mem := rfl
@[simp] theorem State.setSp_launch : (s.setSp v).launch = s.launch := rfl
@[simp] theorem State.setSp_freeCount : (s.setSp v).freeCount = s.freeCount := rfl
@[simp] theorem State.setSp_d : (s.setSp v).d = s.d := rfl
@[simp] theorem State.setSp_byteAt (c : Word) : (s.setSp v).byteAt c = s.byteAt c := rfl

end

section
variable (s : State) (u : FlagUpdate)

@[simp] theorem State.setFlags_a : (s.setFlags u).a = s.a := rfl
@[simp] theorem State.setFlags_b : (s.setFlags u).b = s.b := rfl
@[simp] theorem State.setFlags_x : (s.setFlags u).x = s.x := rfl
@[simp] theorem State.setFlags_y : (s.setFlags u).y = s.y := rfl
@[simp] theorem State.setFlags_sp : (s.setFlags u).sp = s.sp := rfl
@[simp] theorem State.setFlags_pc : (s.setFlags u).pc = s.pc := rfl
@[simp] theorem State.setFlags_ccr : (s.setFlags u).ccr = applyFlags s.ccr u := rfl
@[simp] theorem State.setFlags_ccrh : (s.setFlags u).ccrh = s.ccrh := rfl
@[simp] theorem State.setFlags_mem : (s.setFlags u).mem = s.mem := rfl
@[simp] theorem State.setFlags_launch : (s.setFlags u).launch = s.launch := rfl
@[simp] theorem State.setFlags_freeCount : (s.setFlags u).freeCount = s.freeCount := rfl
@[simp] theorem State.setFlags_d : (s.setFlags u).d = s.d := rfl
@[simp] theorem State.setFlags_byteAt (c : Word) : (s.setFlags u).byteAt c = s.byteAt c := rfl

end

section
variable (s : State) (v : Byte)

@[simp] theorem State.writeCcr_a : (s.writeCcr v).a = s.a := rfl
@[simp] theorem State.writeCcr_b : (s.writeCcr v).b = s.b := rfl
@[simp] theorem State.writeCcr_x : (s.writeCcr v).x = s.x := rfl
@[simp] theorem State.writeCcr_y : (s.writeCcr v).y = s.y := rfl
@[simp] theorem State.writeCcr_sp : (s.writeCcr v).sp = s.sp := rfl
@[simp] theorem State.writeCcr_pc : (s.writeCcr v).pc = s.pc := rfl
@[simp] theorem State.writeCcr_ccr : (s.writeCcr v).ccr = writtenCcr s.ccr v := rfl
@[simp] theorem State.writeCcr_ccrh : (s.writeCcr v).ccrh = s.ccrh := rfl
@[simp] theorem State.writeCcr_mem : (s.writeCcr v).mem = s.mem := rfl
@[simp] theorem State.writeCcr_launch : (s.writeCcr v).launch = s.launch := rfl
@[simp] theorem State.writeCcr_freeCount : (s.writeCcr v).freeCount = s.freeCount := rfl
@[simp] theorem State.writeCcr_d : (s.writeCcr v).d = s.d := rfl
@[simp] theorem State.writeCcr_byteAt (c : Word) : (s.writeCcr v).byteAt c = s.byteAt c := rfl

end

section
variable (s : State) (v : Byte)

@[simp] theorem State.writeCcrh_a : (s.writeCcrh v).a = s.a := rfl
@[simp] theorem State.writeCcrh_b : (s.writeCcrh v).b = s.b := rfl
@[simp] theorem State.writeCcrh_x : (s.writeCcrh v).x = s.x := rfl
@[simp] theorem State.writeCcrh_y : (s.writeCcrh v).y = s.y := rfl
@[simp] theorem State.writeCcrh_sp : (s.writeCcrh v).sp = s.sp := rfl
@[simp] theorem State.writeCcrh_pc : (s.writeCcrh v).pc = s.pc := rfl
@[simp] theorem State.writeCcrh_ccr : (s.writeCcrh v).ccr = s.ccr := rfl
@[simp] theorem State.writeCcrh_ccrh : (s.writeCcrh v).ccrh = (s.ccrh &&& ~~~s.launch.ccrhMask) ||| (v &&& s.launch.ccrhMask) := rfl
@[simp] theorem State.writeCcrh_mem : (s.writeCcrh v).mem = s.mem := rfl
@[simp] theorem State.writeCcrh_launch : (s.writeCcrh v).launch = s.launch := rfl
@[simp] theorem State.writeCcrh_freeCount : (s.writeCcrh v).freeCount = s.freeCount := rfl
@[simp] theorem State.writeCcrh_d : (s.writeCcrh v).d = s.d := rfl
@[simp] theorem State.writeCcrh_byteAt (c : Word) : (s.writeCcrh v).byteAt c = s.byteAt c := rfl

end

section
variable (s : State) (k : Nat)

@[simp] theorem State.useFree_a : (s.useFree k).a = s.a := rfl
@[simp] theorem State.useFree_b : (s.useFree k).b = s.b := rfl
@[simp] theorem State.useFree_x : (s.useFree k).x = s.x := rfl
@[simp] theorem State.useFree_y : (s.useFree k).y = s.y := rfl
@[simp] theorem State.useFree_sp : (s.useFree k).sp = s.sp := rfl
@[simp] theorem State.useFree_pc : (s.useFree k).pc = s.pc := rfl
@[simp] theorem State.useFree_ccr : (s.useFree k).ccr = s.ccr := rfl
@[simp] theorem State.useFree_ccrh : (s.useFree k).ccrh = s.ccrh := rfl
@[simp] theorem State.useFree_mem : (s.useFree k).mem = s.mem := rfl
@[simp] theorem State.useFree_launch : (s.useFree k).launch = s.launch := rfl
@[simp] theorem State.useFree_freeCount : (s.useFree k).freeCount = s.freeCount + k := rfl
@[simp] theorem State.useFree_d : (s.useFree k).d = s.d := rfl
@[simp] theorem State.useFree_byteAt (c : Word) : (s.useFree k).byteAt c = s.byteAt c := rfl

end

section
variable (s : State) (a : Word) (v : Byte)

@[simp] theorem State.putByte_a : (s.putByte a v).a = s.a := rfl
@[simp] theorem State.putByte_b : (s.putByte a v).b = s.b := rfl
@[simp] theorem State.putByte_x : (s.putByte a v).x = s.x := rfl
@[simp] theorem State.putByte_y : (s.putByte a v).y = s.y := rfl
@[simp] theorem State.putByte_sp : (s.putByte a v).sp = s.sp := rfl
@[simp] theorem State.putByte_pc : (s.putByte a v).pc = s.pc := rfl
@[simp] theorem State.putByte_ccr : (s.putByte a v).ccr = s.ccr := rfl
@[simp] theorem State.putByte_ccrh : (s.putByte a v).ccrh = s.ccrh := rfl
@[simp] theorem State.putByte_mem : (s.putByte a v).mem = Memory.write s.mem a.toNat v := rfl
@[simp] theorem State.putByte_launch : (s.putByte a v).launch = s.launch := rfl
@[simp] theorem State.putByte_freeCount : (s.putByte a v).freeCount = s.freeCount := rfl
@[simp] theorem State.putByte_d : (s.putByte a v).d = s.d := rfl

end

section
variable (s : State)

@[simp] theorem State.get8_a : s.get8 .a = s.a := rfl
@[simp] theorem State.get8_b : s.get8 .b = s.b := rfl
@[simp] theorem State.get8_ccr : s.get8 .ccr = s.ccr := rfl
@[simp] theorem State.get16_d : s.get16 .d = s.d := rfl
@[simp] theorem State.get16_x : s.get16 .x = s.x := rfl
@[simp] theorem State.get16_y : s.get16 .y = s.y := rfl
@[simp] theorem State.get16_sp : s.get16 .sp = s.sp := rfl
@[simp] theorem State.set8_a (v : Byte) : s.set8 .a v = s.setA v := rfl
@[simp] theorem State.set8_b (v : Byte) : s.set8 .b v = s.setB v := rfl
@[simp] theorem State.set8_ccr (v : Byte) : s.set8 .ccr v = s.writeCcr v := rfl
@[simp] theorem State.set16_d (v : Word) : s.set16 .d v = s.setD v := rfl
@[simp] theorem State.set16_x (v : Word) : s.set16 .x v = s.setX v := rfl
@[simp] theorem State.set16_y (v : Word) : s.set16 .y v = s.setY v := rfl
@[simp] theorem State.set16_sp (v : Word) : s.set16 .sp v = s.setSp v := rfl
@[simp] theorem State.setAutoBase_x (v : Word) : s.setAutoBase .x v = s.setX v := rfl
@[simp] theorem State.setAutoBase_y (v : Word) : s.setAutoBase .y v = s.setY v := rfl
@[simp] theorem State.setAutoBase_sp (v : Word) : s.setAutoBase .sp v = s.setSp v := rfl

end

end Sys2Proof.Machine
end

