-- ==== Sys2Proof/Laws/Ops.lean ====
section
/-! SUPPORT. What each shared operation can do, said once: a memory access answers exactly when its bytes are
admitted and, for a write, outside the program text. -/

namespace Sys2Proof.Machine

@[simp] theorem complete_ok (next : Word) (t : State) : complete next (.ok t) = .next { t with pc := next } := rfl

@[simp] theorem complete_error (next : Word) (e : Stop) : complete next (.error e) = stopWith e := rfl

theorem stopWith_ne_next (e : Stop) (t : State) : stopWith e ≠ .next t := by
  cases e <;> simp [stopWith]

/-- An instruction answers a next state exactly when its body does, with the PC advanced. -/
theorem complete_eq_next_iff (next : Word) (r : Except Stop State) (t : State) :
    complete next r = .next t ↔ ∃ s, r = .ok s ∧ t = { s with pc := next } := by
  cases r with
  | ok s => simp [eq_comm]
  | error e => simp [stopWith_ne_next]

@[simp] theorem finish_eq (len : Nat) (s t : State) : finish len s t = .next { t with pc := s.nextPc len } := rfl

/-- A form without a stated result answers a next state exactly where it is not refused and its run answers it. -/
theorem whereUnstated_eq_next_iff (r : Refusal) (s : State) (o : Host.Outcome State Fault Refusal) (t : State) :
    whereUnstated r s o = .next t ↔ s.launch.refuseUnstated = false ∧ o = .next t := by
  unfold whereUnstated
  by_cases h : s.launch.refuseUnstated = true <;> simp [h]

theorem readByte_eq_ok_iff (s : State) (a : Word) (v : Byte) :
    readByte s a = .ok v ↔ s.launch.admits a = true ∧ v = s.byteAt a := by
  unfold readByte
  by_cases h : s.launch.admits a <;> simp only [h, if_true, if_false, Bool.false_eq_true, true_and, false_and,
    Except.ok.injEq, reduceCtorEq]
  exact eq_comm

theorem readWord_eq_ok_iff (s : State) (a v : Word) :
    readWord s a = .ok v ↔
      (s.launch.admits a = true ∧ s.launch.admits (a + 1#16) = true) ∧
        v = joinBytes (s.byteAt a) (s.byteAt (a + 1#16)) := by
  unfold readWord
  rw [← Bool.and_eq_true]
  by_cases h : (s.launch.admits a && s.launch.admits (a + 1#16)) = true <;> simp only [h, if_true, if_false,
    Bool.false_eq_true, true_and, false_and, Except.ok.injEq, reduceCtorEq]
  exact eq_comm

/-- A read that does not answer is stuck. -/
theorem readByte_error {s : State} {a : Word} {e : Stop} (h : readByte s a = .error e) : e = .fault .stuck := by
  unfold readByte at h
  split at h <;> simp_all

theorem readWord_error {s : State} {a : Word} {e : Stop} (h : readWord s a = .error e) : e = .fault .stuck := by
  unfold readWord at h
  split at h <;> simp_all

theorem writeByte_eq_ok_iff (s : State) (a : Word) (v : Byte) (t : State) :
    writeByte s a v = .ok t ↔
      s.launch.admits a = true ∧ s.launch.inCode a = false ∧ t = s.putByte a v := by
  unfold writeByte
  by_cases h : s.launch.admits a <;> by_cases h' : s.launch.inCode a <;> simp only [h, h', if_true, if_false,
    Bool.false_eq_true, Bool.true_eq_false, true_and, false_and, Except.ok.injEq, reduceCtorEq]
  exact eq_comm

theorem writeWord_eq_ok_iff (s : State) (a v : Word) (t : State) :
    writeWord s a v = .ok t ↔
      (s.launch.admits a = true ∧ s.launch.admits (a + 1#16) = true) ∧
      (s.launch.inCode a = false ∧ s.launch.inCode (a + 1#16) = false) ∧
      t = (s.putByte a (hiByte v)).putByte (a + 1#16) (loByte v) := by
  unfold writeWord
  rw [← Bool.and_eq_true, ← Bool.or_eq_false_iff]
  by_cases h : (s.launch.admits a && s.launch.admits (a + 1#16)) = true <;>
    by_cases h' : (s.launch.inCode a || s.launch.inCode (a + 1#16)) = true <;> simp only [h, h', if_true, if_false,
    Bool.false_eq_true, Bool.true_eq_false, true_and, false_and, Except.ok.injEq, reduceCtorEq]
  exact eq_comm

theorem pushByte_eq_ok_iff (s : State) (v : Byte) (t : State) :
    pushByte s v = .ok t ↔
      s.launch.admits (s.sp - 1#16) = true ∧ s.launch.inCode (s.sp - 1#16) = false ∧
      t = (s.setSp (s.sp - 1#16)).putByte (s.sp - 1#16) v := by
  unfold pushByte
  rw [writeByte_eq_ok_iff]
  rfl

theorem pushWord_eq_ok_iff (s : State) (v : Word) (t : State) :
    pushWord s v = .ok t ↔
      (s.launch.admits (s.sp - 2#16) = true ∧ s.launch.admits (s.sp - 2#16 + 1#16) = true) ∧
      (s.launch.inCode (s.sp - 2#16) = false ∧ s.launch.inCode (s.sp - 2#16 + 1#16) = false) ∧
      t = ((s.setSp (s.sp - 2#16)).putByte (s.sp - 2#16) (hiByte v)).putByte (s.sp - 2#16 + 1#16) (loByte v) := by
  unfold pushWord
  rw [writeWord_eq_ok_iff]
  rfl

theorem pullByte_eq_ok_iff (s : State) (f : Byte → State → State) (t : State) :
    pullByte s f = .ok t ↔
      s.launch.admits s.sp = true ∧ t = f (s.byteAt s.sp) (s.setSp (s.sp + 1#16)) := by
  unfold pullByte readByte
  by_cases h : s.launch.admits s.sp <;> simp [h, eq_comm]

theorem pullWord_eq_ok_iff (s : State) (f : Word → State → State) (t : State) :
    pullWord s f = .ok t ↔
      (s.launch.admits s.sp = true ∧ s.launch.admits (s.sp + 1#16) = true) ∧
      t = f (joinBytes (s.byteAt s.sp) (s.byteAt (s.sp + 1#16))) (s.setSp (s.sp + 2#16)) := by
  unfold pullWord readWord
  by_cases h : s.launch.admits s.sp <;> by_cases h' : s.launch.admits (s.sp + 1#16) <;> simp [h, h', eq_comm]

end Sys2Proof.Machine
end

