-- ==== Sys2Proof/Laws/Operands.lean ====
section
/-! SUPPORT. What the operand forms can do, said once: the effective address changes nothing but the register
its automatic mode steps; an operand fetch is an address and a read; the sizes are the encoder's lengths. -/

namespace Sys2Proof.Machine

/-- `t` is `s` but for X, Y and SP. -/
structure SameButIndex (s t : State) : Prop where
  a : t.a = s.a
  b : t.b = s.b
  pc : t.pc = s.pc
  ccr : t.ccr = s.ccr
  ccrh : t.ccrh = s.ccrh
  mem : t.mem = s.mem
  launch : t.launch = s.launch
  freeCount : t.freeCount = s.freeCount

theorem SameButIndex.refl (s : State) : SameButIndex s s := ⟨rfl, rfl, rfl, rfl, rfl, rfl, rfl, rfl⟩

theorem SameButIndex.setAutoBase (s : State) (r : AutoBase) (v : Word) : SameButIndex s (s.setAutoBase r v) := by
  cases r <;> exact ⟨rfl, rfl, rfl, rfl, rfl, rfl, rfl, rfl⟩

/-- An indexed operand leaves the state, or steps its one automatic base. -/
theorem resolveIdx_state {i : Idx} {next : Word} {s s1 : State} {a : Word}
    (h : resolveIdx i next s = .ok (a, s1)) :
    s1 = s ∨ ∃ r post n, i = .auto r post n ∧ s1 = s.setAutoBase r (s.autoBase r + autoStep n) := by
  cases i with
  | auto r post n =>
    simp only [resolveIdx, Except.ok.injEq, Prod.mk.injEq] at h
    exact .inr ⟨r, post, n, rfl, h.2.symm⟩
  | indN16 r n =>
    simp only [resolveIdx] at h
    split at h <;> simp_all
  | indD r =>
    simp only [resolveIdx] at h
    split at h <;> simp_all
  | _ => simp_all [resolveIdx]

theorem resolveIdx_same {i : Idx} {next : Word} {s s1 : State} {a : Word}
    (h : resolveIdx i next s = .ok (a, s1)) : SameButIndex s s1 := by
  rcases resolveIdx_state h with rfl | ⟨r, post, n, -, rfl⟩
  · exact .refl _
  · exact .setAutoBase s r _

theorem resolveEa_same {ea : Ea} {next : Word} {s s1 : State} {a : Word}
    (h : resolveEa ea next s = .ok (a, s1)) : SameButIndex s s1 := by
  cases ea with
  | idx i => exact resolveIdx_same h
  | _ => simp_all [resolveEa, SameButIndex.refl]

theorem resolveEaXI_same {ea : EaXI} {next : Word} {s s1 : State} {a : Word}
    (h : resolveEaXI ea next s = .ok (a, s1)) : SameButIndex s s1 := by
  cases ea with
  | idx i => exact resolveIdx_same h
  | _ => simp_all [resolveEaXI, SameButIndex.refl]

theorem resolveMovDst_same {d : MovDst} {next : Word} {s s1 : State} {a : Word}
    (h : resolveMovDst d next s = .ok (a, s1)) : SameButIndex s s1 := by
  cases d with
  | idx i => exact resolveIdx_same h
  | _ => simp_all [resolveMovDst, SameButIndex.refl]

/-- An 8-bit operand is its immediate, or the byte at its address. -/
theorem fetchSrc8_eq_ok {op : Src8} {next : Word} {s s1 : State} {v : Byte}
    (h : fetchSrc8 op next s = .ok (v, s1)) :
    (op = .imm v ∧ s1 = s) ∨
      ∃ ea a, op = .mem ea ∧ resolveEa ea next s = .ok (a, s1) ∧ readByte s1 a = .ok v := by
  cases op with
  | imm w => simp_all [fetchSrc8]
  | mem ea =>
    simp only [fetchSrc8] at h
    split at h
    · rename_i a s2 hr
      split at h <;> simp_all
    · simp at h

/-- A 16-bit operand is its immediate, or the word at its address. -/
theorem fetchSrc16_eq_ok {op : Src16} {next : Word} {s s1 : State} {v : Word}
    (h : fetchSrc16 op next s = .ok (v, s1)) :
    (op = .imm v ∧ s1 = s) ∨
      ∃ ea a, op = .mem ea ∧ resolveEa ea next s = .ok (a, s1) ∧ readWord s1 a = .ok v := by
  cases op with
  | imm w => simp_all [fetchSrc16]
  | mem ea =>
    simp only [fetchSrc16] at h
    split at h
    · rename_i a s2 hr
      split at h <;> simp_all
    · simp at h

theorem fetchSrc8_same {op : Src8} {next : Word} {s s1 : State} {v : Byte}
    (h : fetchSrc8 op next s = .ok (v, s1)) : SameButIndex s s1 := by
  rcases fetchSrc8_eq_ok h with ⟨-, rfl⟩ | ⟨ea, a, -, hr, -⟩
  · exact .refl _
  · exact resolveEa_same hr

theorem fetchSrc16_same {op : Src16} {next : Word} {s s1 : State} {v : Word}
    (h : fetchSrc16 op next s = .ok (v, s1)) : SameButIndex s s1 := by
  rcases fetchSrc16_eq_ok h with ⟨-, rfl⟩ | ⟨ea, a, -, hr, -⟩
  · exact .refl _
  · exact resolveEa_same hr

/-! ## Stops: an operand without a value or an address is stuck (R51, R377) -/

theorem resolveIdx_error {i : Idx} {next : Word} {s : State} {e : Stop} (h : resolveIdx i next s = .error e) :
    e = .fault .stuck := by
  cases i with
  | indN16 r n =>
    simp only [resolveIdx] at h
    split at h
    · simp at h
    · cases h; exact readWord_error ‹_›
  | indD r =>
    simp only [resolveIdx] at h
    split at h
    · simp at h
    · cases h; exact readWord_error ‹_›
  | _ => simp [resolveIdx] at h

theorem resolveEa_error {ea : Ea} {next : Word} {s : State} {e : Stop} (h : resolveEa ea next s = .error e) :
    e = .fault .stuck := by
  cases ea with
  | idx i => exact resolveIdx_error h
  | _ => simp [resolveEa] at h

theorem resolveEaXI_error {ea : EaXI} {next : Word} {s : State} {e : Stop} (h : resolveEaXI ea next s = .error e) :
    e = .fault .stuck := by
  cases ea with
  | idx i => exact resolveIdx_error h
  | _ => simp [resolveEaXI] at h

theorem resolveMovDst_error {d : MovDst} {next : Word} {s : State} {e : Stop}
    (h : resolveMovDst d next s = .error e) : e = .fault .stuck := by
  cases d with
  | idx i => exact resolveIdx_error h
  | _ => simp [resolveMovDst] at h

theorem fetchSrc8_error {op : Src8} {next : Word} {s : State} {e : Stop} (h : fetchSrc8 op next s = .error e) :
    e = .fault .stuck := by
  cases op with
  | imm v => simp [fetchSrc8] at h
  | mem ea =>
    simp only [fetchSrc8] at h
    split at h
    · split at h
      · simp at h
      · cases h; exact readByte_error ‹_›
    · cases h; exact resolveEa_error ‹_›

theorem fetchSrc16_error {op : Src16} {next : Word} {s : State} {e : Stop} (h : fetchSrc16 op next s = .error e) :
    e = .fault .stuck := by
  cases op with
  | imm v => simp [fetchSrc16] at h
  | mem ea =>
    simp only [fetchSrc16] at h
    split at h
    · split at h
      · simp at h
      · cases h; exact readWord_error ‹_›
    · cases h; exact resolveEa_error ‹_›

/-! ## Sizes -/

@[simp] theorem encodeIdx_length (i : Idx) : (encodeIdx i).length = idxSize i := by cases i <;> rfl

@[simp] theorem encodeWord_length (v : Word) : (encodeWord v).length = 2 := rfl

theorem encodeEa_length (dir ext idx : Byte) (ea : Ea) : (encodeEa dir ext idx ea).length = 1 + eaSize ea := by
  cases ea <;> simp [encodeEa, eaSize]; omega

theorem encodeEaXI_length (ext idx : Byte) (ea : EaXI) : (encodeEaXI ext idx ea).length = 1 + eaXISize ea := by
  cases ea <;> simp [encodeEaXI, eaXISize]; omega

theorem encodeSrc8_length (imm dir ext idx : Byte) (op : Src8) :
    (encodeSrc8 imm dir ext idx op).length = 1 + src8Size op := by
  cases op with
  | imm v => rfl
  | mem ea => exact encodeEa_length dir ext idx ea

theorem encodeSrc16_length (imm dir ext idx : Byte) (op : Src16) :
    (encodeSrc16 imm dir ext idx op).length = 1 + src16Size op := by
  cases op with
  | imm v => rfl
  | mem ea => exact encodeEa_length dir ext idx ea

theorem encodeMovb_length (src : MovSrc8) (dst : MovDst) :
    (encodeMovb src dst).length = 2 + movSrc8Size src + movDstSize dst := by
  cases src <;> cases dst <;> simp [encodeMovb, movSrc8Size, movDstSize] <;> omega

theorem encodeMovw_length (src : MovSrc16) (dst : MovDst) :
    (encodeMovw src dst).length = 2 + movSrc16Size src + movDstSize dst := by
  cases src <;> cases dst <;> simp [encodeMovw, movSrc16Size, movDstSize] <;> omega

theorem idxSize_bounds (i : Idx) : 1 ≤ idxSize i ∧ idxSize i ≤ 3 := by cases i <;> simp [idxSize]

theorem eaSize_bounds (ea : Ea) : 1 ≤ eaSize ea ∧ eaSize ea ≤ 3 := by
  cases ea with
  | idx i => exact idxSize_bounds i
  | _ => simp [eaSize]

theorem eaXISize_bounds (ea : EaXI) : 1 ≤ eaXISize ea ∧ eaXISize ea ≤ 3 := by
  cases ea with
  | idx i => exact idxSize_bounds i
  | _ => simp [eaXISize]

theorem src8Size_bounds (op : Src8) : 1 ≤ src8Size op ∧ src8Size op ≤ 3 := by
  cases op with
  | imm _ => simp [src8Size]
  | mem ea => exact eaSize_bounds ea

theorem src16Size_bounds (op : Src16) : 1 ≤ src16Size op ∧ src16Size op ≤ 3 := by
  cases op with
  | imm _ => simp [src16Size]
  | mem ea => exact eaSize_bounds ea

theorem idxSize_of_movForm {i : Idx} (h : i.movForm = true) : idxSize i = 1 := by
  cases i <;> simp_all [Idx.movForm, idxSize]

theorem movSrc8Size_bounds {src : MovSrc8} (h : src.movForm = true) : 1 ≤ movSrc8Size src ∧ movSrc8Size src ≤ 2 := by
  cases src with
  | idx i => simp [movSrc8Size, idxSize_of_movForm h]
  | _ => simp [movSrc8Size]

theorem movSrc16Size_bounds {src : MovSrc16} (h : src.movForm = true) :
    1 ≤ movSrc16Size src ∧ movSrc16Size src ≤ 2 := by
  cases src with
  | idx i => simp [movSrc16Size, idxSize_of_movForm h]
  | _ => simp [movSrc16Size]

theorem movDstSize_bounds {dst : MovDst} (h : dst.movForm = true) : 1 ≤ movDstSize dst ∧ movDstSize dst ≤ 2 := by
  cases dst with
  | idx i => simp [movDstSize, idxSize_of_movForm h]
  | _ => simp [movDstSize]

end Sys2Proof.Machine
end

