-- ==== Sys2Proof/Laws/PerInstr.lean ====
section
/-! SUPPORT. The per-instruction family `EncodedSize`: a well-formed instruction is 1 to 6 bytes long
(spec/30_encoding.md R71), one lemma per constructor. -/

namespace Sys2Proof.Laws.EncodedSize

open Sys2Proof.Machine

/-- A well-formed instruction is 1 to 6 bytes long (R71). -/
def Statement (i : Instr) : Prop := WellFormed i = true → 1 ≤ byteLength i ∧ byteLength i ≤ 6

theorem of_eq {i : Instr} {n : Nat} (h : byteLength i = n) (h1 : 1 ≤ n) (h6 : n ≤ 6) : Statement i :=
  fun _ => h ▸ ⟨h1, h6⟩

theorem of_operand {i : Instr} {n : Nat} (h : byteLength i = 1 + n) (hn : 1 ≤ n ∧ n ≤ 3) : Statement i :=
  fun _ => by omega

theorem ldaa (op : Src8) : Statement (.ldaa op) :=
  of_operand (encodeSrc8_length _ _ _ _ op) (src8Size_bounds op)

theorem ldab (op : Src8) : Statement (.ldab op) :=
  of_operand (encodeSrc8_length _ _ _ _ op) (src8Size_bounds op)

theorem ldd (op : Src16) : Statement (.ldd op) :=
  of_operand (encodeSrc16_length _ _ _ _ op) (src16Size_bounds op)

theorem lds (op : Src16) : Statement (.lds op) :=
  of_operand (encodeSrc16_length _ _ _ _ op) (src16Size_bounds op)

theorem ldx (op : Src16) : Statement (.ldx op) :=
  of_operand (encodeSrc16_length _ _ _ _ op) (src16Size_bounds op)

theorem ldy (op : Src16) : Statement (.ldy op) :=
  of_operand (encodeSrc16_length _ _ _ _ op) (src16Size_bounds op)

theorem leas (i : Idx) : Statement (.leas i) :=
  of_operand (by simp [byteLength, encode]; omega) (idxSize_bounds i)

theorem leax (i : Idx) : Statement (.leax i) :=
  of_operand (by simp [byteLength, encode]; omega) (idxSize_bounds i)

theorem leay (i : Idx) : Statement (.leay i) :=
  of_operand (by simp [byteLength, encode]; omega) (idxSize_bounds i)

theorem staa (ea : Ea) : Statement (.staa ea) := of_operand (encodeEa_length _ _ _ ea) (eaSize_bounds ea)

theorem stab (ea : Ea) : Statement (.stab ea) := of_operand (encodeEa_length _ _ _ ea) (eaSize_bounds ea)

theorem std (ea : Ea) : Statement (.std ea) := of_operand (encodeEa_length _ _ _ ea) (eaSize_bounds ea)

theorem sts (ea : Ea) : Statement (.sts ea) := of_operand (encodeEa_length _ _ _ ea) (eaSize_bounds ea)

theorem stx (ea : Ea) : Statement (.stx ea) := of_operand (encodeEa_length _ _ _ ea) (eaSize_bounds ea)

theorem sty (ea : Ea) : Statement (.sty ea) := of_operand (encodeEa_length _ _ _ ea) (eaSize_bounds ea)

theorem tfr (r1 r2 : Reg) : Statement (.tfr r1 r2) := of_eq (n := 2) rfl (by decide) (by decide)

theorem exg (r1 r2 : Reg) : Statement (.exg r1 r2) := of_eq (n := 2) rfl (by decide) (by decide)

theorem sex (r1 : Reg8) (r2 : Reg16) : Statement (.sex r1 r2) := of_eq (n := 2) rfl (by decide) (by decide)

theorem tab : Statement (.tab) := of_eq (n := 2) rfl (by decide) (by decide)

theorem tba : Statement (.tba) := of_eq (n := 2) rfl (by decide) (by decide)

theorem tap : Statement (.tap) := of_eq (n := 2) rfl (by decide) (by decide)

theorem tpa : Statement (.tpa) := of_eq (n := 2) rfl (by decide) (by decide)

theorem tsx : Statement (.tsx) := of_eq (n := 2) rfl (by decide) (by decide)

theorem tsy : Statement (.tsy) := of_eq (n := 2) rfl (by decide) (by decide)

theorem txs : Statement (.txs) := of_eq (n := 2) rfl (by decide) (by decide)

theorem tys : Statement (.tys) := of_eq (n := 2) rfl (by decide) (by decide)

theorem xgdx : Statement (.xgdx) := of_eq (n := 2) rfl (by decide) (by decide)

theorem xgdy : Statement (.xgdy) := of_eq (n := 2) rfl (by decide) (by decide)

theorem movb (src : MovSrc8) (dst : MovDst) : Statement (.movb src dst) := by
  intro h
  have hl : byteLength (.movb src dst) = _ := encodeMovb_length src dst
  simp only [WellFormed, Bool.and_eq_true] at h
  have hs := movSrc8Size_bounds h.1
  have hd := movDstSize_bounds h.2
  omega

theorem movw (src : MovSrc16) (dst : MovDst) : Statement (.movw src dst) := by
  intro h
  have hl : byteLength (.movw src dst) = _ := encodeMovw_length src dst
  simp only [WellFormed, Bool.and_eq_true] at h
  have hs := movSrc16Size_bounds h.1
  have hd := movDstSize_bounds h.2
  omega

theorem des : Statement (.des) := of_eq (n := 2) rfl (by decide) (by decide)

theorem ins : Statement (.ins) := of_eq (n := 2) rfl (by decide) (by decide)

theorem cps (op : Src16) : Statement (.cps op) :=
  of_operand (encodeSrc16_length _ _ _ _ op) (src16Size_bounds op)

theorem psha : Statement (.psha) := of_eq (n := 1) rfl (by decide) (by decide)

theorem pshb : Statement (.pshb) := of_eq (n := 1) rfl (by decide) (by decide)

theorem pshc : Statement (.pshc) := of_eq (n := 1) rfl (by decide) (by decide)

theorem pshcw : Statement (.pshcw) := of_eq (n := 2) rfl (by decide) (by decide)

theorem pshd : Statement (.pshd) := of_eq (n := 1) rfl (by decide) (by decide)

theorem pshx : Statement (.pshx) := of_eq (n := 1) rfl (by decide) (by decide)

theorem pshy : Statement (.pshy) := of_eq (n := 1) rfl (by decide) (by decide)

theorem pula : Statement (.pula) := of_eq (n := 1) rfl (by decide) (by decide)

theorem pulb : Statement (.pulb) := of_eq (n := 1) rfl (by decide) (by decide)

theorem pulc : Statement (.pulc) := of_eq (n := 1) rfl (by decide) (by decide)

theorem pulcw : Statement (.pulcw) := of_eq (n := 2) rfl (by decide) (by decide)

theorem puld : Statement (.puld) := of_eq (n := 1) rfl (by decide) (by decide)

theorem pulx : Statement (.pulx) := of_eq (n := 1) rfl (by decide) (by decide)

theorem puly : Statement (.puly) := of_eq (n := 1) rfl (by decide) (by decide)

theorem aba : Statement (.aba) := of_eq (n := 2) rfl (by decide) (by decide)

theorem abx : Statement (.abx) := of_eq (n := 2) rfl (by decide) (by decide)

theorem aby : Statement (.aby) := of_eq (n := 2) rfl (by decide) (by decide)

theorem adca (op : Src8) : Statement (.adca op) :=
  of_operand (encodeSrc8_length _ _ _ _ op) (src8Size_bounds op)

theorem adcb (op : Src8) : Statement (.adcb op) :=
  of_operand (encodeSrc8_length _ _ _ _ op) (src8Size_bounds op)

theorem adda (op : Src8) : Statement (.adda op) :=
  of_operand (encodeSrc8_length _ _ _ _ op) (src8Size_bounds op)

theorem addb (op : Src8) : Statement (.addb op) :=
  of_operand (encodeSrc8_length _ _ _ _ op) (src8Size_bounds op)

theorem addd (op : Src16) : Statement (.addd op) :=
  of_operand (encodeSrc16_length _ _ _ _ op) (src16Size_bounds op)

theorem sba : Statement (.sba) := of_eq (n := 2) rfl (by decide) (by decide)

theorem sbca (op : Src8) : Statement (.sbca op) :=
  of_operand (encodeSrc8_length _ _ _ _ op) (src8Size_bounds op)

theorem sbcb (op : Src8) : Statement (.sbcb op) :=
  of_operand (encodeSrc8_length _ _ _ _ op) (src8Size_bounds op)

theorem suba (op : Src8) : Statement (.suba op) :=
  of_operand (encodeSrc8_length _ _ _ _ op) (src8Size_bounds op)

theorem subb (op : Src8) : Statement (.subb op) :=
  of_operand (encodeSrc8_length _ _ _ _ op) (src8Size_bounds op)

theorem subd (op : Src16) : Statement (.subd op) :=
  of_operand (encodeSrc16_length _ _ _ _ op) (src16Size_bounds op)

theorem dec (ea : EaXI) : Statement (.dec ea) := of_operand (encodeEaXI_length _ _ ea) (eaXISize_bounds ea)

theorem deca : Statement (.deca) := of_eq (n := 1) rfl (by decide) (by decide)

theorem decb : Statement (.decb) := of_eq (n := 1) rfl (by decide) (by decide)

theorem dex : Statement (.dex) := of_eq (n := 1) rfl (by decide) (by decide)

theorem dey : Statement (.dey) := of_eq (n := 1) rfl (by decide) (by decide)

theorem inc (ea : EaXI) : Statement (.inc ea) := of_operand (encodeEaXI_length _ _ ea) (eaXISize_bounds ea)

theorem inca : Statement (.inca) := of_eq (n := 1) rfl (by decide) (by decide)

theorem incb : Statement (.incb) := of_eq (n := 1) rfl (by decide) (by decide)

theorem inx : Statement (.inx) := of_eq (n := 1) rfl (by decide) (by decide)

theorem iny : Statement (.iny) := of_eq (n := 1) rfl (by decide) (by decide)

theorem cba : Statement (.cba) := of_eq (n := 2) rfl (by decide) (by decide)

theorem cmpa (op : Src8) : Statement (.cmpa op) :=
  of_operand (encodeSrc8_length _ _ _ _ op) (src8Size_bounds op)

theorem cmpb (op : Src8) : Statement (.cmpb op) :=
  of_operand (encodeSrc8_length _ _ _ _ op) (src8Size_bounds op)

theorem cpd (op : Src16) : Statement (.cpd op) :=
  of_operand (encodeSrc16_length _ _ _ _ op) (src16Size_bounds op)

theorem cpx (op : Src16) : Statement (.cpx op) :=
  of_operand (encodeSrc16_length _ _ _ _ op) (src16Size_bounds op)

theorem cpy (op : Src16) : Statement (.cpy op) :=
  of_operand (encodeSrc16_length _ _ _ _ op) (src16Size_bounds op)

theorem tst (ea : EaXI) : Statement (.tst ea) := of_operand (encodeEaXI_length _ _ ea) (eaXISize_bounds ea)

theorem tsta : Statement (.tsta) := of_eq (n := 1) rfl (by decide) (by decide)

theorem tstb : Statement (.tstb) := of_eq (n := 1) rfl (by decide) (by decide)

theorem clc : Statement (.clc) := of_eq (n := 2) rfl (by decide) (by decide)

theorem cli : Statement (.cli) := of_eq (n := 2) rfl (by decide) (by decide)

theorem clv : Statement (.clv) := of_eq (n := 2) rfl (by decide) (by decide)

theorem clr (ea : EaXI) : Statement (.clr ea) := of_operand (encodeEaXI_length _ _ ea) (eaXISize_bounds ea)

theorem clra : Statement (.clra) := of_eq (n := 1) rfl (by decide) (by decide)

theorem clrb : Statement (.clrb) := of_eq (n := 1) rfl (by decide) (by decide)

theorem com (ea : EaXI) : Statement (.com ea) := of_operand (encodeEaXI_length _ _ ea) (eaXISize_bounds ea)

theorem coma : Statement (.coma) := of_eq (n := 1) rfl (by decide) (by decide)

theorem comb : Statement (.comb) := of_eq (n := 1) rfl (by decide) (by decide)

theorem neg (ea : EaXI) : Statement (.neg ea) := of_operand (encodeEaXI_length _ _ ea) (eaXISize_bounds ea)

theorem nega : Statement (.nega) := of_eq (n := 1) rfl (by decide) (by decide)

theorem negb : Statement (.negb) := of_eq (n := 1) rfl (by decide) (by decide)

theorem emul : Statement (.emul) := of_eq (n := 1) rfl (by decide) (by decide)

theorem emuls : Statement (.emuls) := of_eq (n := 2) rfl (by decide) (by decide)

theorem mul : Statement (.mul) := of_eq (n := 1) rfl (by decide) (by decide)

theorem ediv : Statement (.ediv) := of_eq (n := 1) rfl (by decide) (by decide)

theorem edivs : Statement (.edivs) := of_eq (n := 2) rfl (by decide) (by decide)

theorem fdiv : Statement (.fdiv) := of_eq (n := 2) rfl (by decide) (by decide)

theorem idiv : Statement (.idiv) := of_eq (n := 2) rfl (by decide) (by decide)

theorem idivs : Statement (.idivs) := of_eq (n := 2) rfl (by decide) (by decide)

theorem anda (op : Src8) : Statement (.anda op) :=
  of_operand (encodeSrc8_length _ _ _ _ op) (src8Size_bounds op)

theorem andb (op : Src8) : Statement (.andb op) :=
  of_operand (encodeSrc8_length _ _ _ _ op) (src8Size_bounds op)

theorem andcc (ii : Byte) : Statement (.andcc ii) := of_eq (n := 2) rfl (by decide) (by decide)

theorem eora (op : Src8) : Statement (.eora op) :=
  of_operand (encodeSrc8_length _ _ _ _ op) (src8Size_bounds op)

theorem eorb (op : Src8) : Statement (.eorb op) :=
  of_operand (encodeSrc8_length _ _ _ _ op) (src8Size_bounds op)

theorem oraa (op : Src8) : Statement (.oraa op) :=
  of_operand (encodeSrc8_length _ _ _ _ op) (src8Size_bounds op)

theorem orab (op : Src8) : Statement (.orab op) :=
  of_operand (encodeSrc8_length _ _ _ _ op) (src8Size_bounds op)

theorem orcc (ii : Byte) : Statement (.orcc ii) := of_eq (n := 2) rfl (by decide) (by decide)

theorem lsl (ea : EaXI) : Statement (.lsl ea) := of_operand (encodeEaXI_length _ _ ea) (eaXISize_bounds ea)

theorem lsla : Statement (.lsla) := of_eq (n := 1) rfl (by decide) (by decide)

theorem lslb : Statement (.lslb) := of_eq (n := 1) rfl (by decide) (by decide)

theorem lsld : Statement (.lsld) := of_eq (n := 1) rfl (by decide) (by decide)

theorem lsr (ea : EaXI) : Statement (.lsr ea) := of_operand (encodeEaXI_length _ _ ea) (eaXISize_bounds ea)

theorem lsra : Statement (.lsra) := of_eq (n := 1) rfl (by decide) (by decide)

theorem lsrb : Statement (.lsrb) := of_eq (n := 1) rfl (by decide) (by decide)

theorem lsrd : Statement (.lsrd) := of_eq (n := 1) rfl (by decide) (by decide)

theorem asl (ea : EaXI) : Statement (.asl ea) := of_operand (encodeEaXI_length _ _ ea) (eaXISize_bounds ea)

theorem asla : Statement (.asla) := of_eq (n := 1) rfl (by decide) (by decide)

theorem aslb : Statement (.aslb) := of_eq (n := 1) rfl (by decide) (by decide)

theorem asld : Statement (.asld) := of_eq (n := 1) rfl (by decide) (by decide)

theorem asr (ea : EaXI) : Statement (.asr ea) := of_operand (encodeEaXI_length _ _ ea) (eaXISize_bounds ea)

theorem asra : Statement (.asra) := of_eq (n := 1) rfl (by decide) (by decide)

theorem asrb : Statement (.asrb) := of_eq (n := 1) rfl (by decide) (by decide)

theorem rol (ea : EaXI) : Statement (.rol ea) := of_operand (encodeEaXI_length _ _ ea) (eaXISize_bounds ea)

theorem rola : Statement (.rola) := of_eq (n := 1) rfl (by decide) (by decide)

theorem rolb : Statement (.rolb) := of_eq (n := 1) rfl (by decide) (by decide)

theorem ror (ea : EaXI) : Statement (.ror ea) := of_operand (encodeEaXI_length _ _ ea) (eaXISize_bounds ea)

theorem rora : Statement (.rora) := of_eq (n := 1) rfl (by decide) (by decide)

theorem rorb : Statement (.rorb) := of_eq (n := 1) rfl (by decide) (by decide)

end Sys2Proof.Laws.EncodedSize
end

