-- ==== Sys2Proof/Tests/Slice0.lean ====
section
/-! SUPPORT. Tests of the model. The well-formedness checks on ill-formed terms; a word of every constructor, its
bytes from the Encoding clause of its rule, and what the decoder reads; single steps, whose starts and ends are the
vectors of spec/95_test_vectors.md; and for every statement with hypotheses a state and operands that meet them, at
the boundary values of its clauses. -/

namespace Sys2Proof.Tests

open Sys2Proof Sys2Proof.Machine Sys2Proof.Safety

/-! ## Helpers -/

/-- The reset state with every register holding something. -/
def base : State :=
  { State.reset with a := 0x12#8, b := 0x34#8, x := 0x1000#16, y := 0x1800#16, sp := 0x4000#16, ccrh := 0x05#8 }

/-- `base` with no program text, where unstated results are free values. -/
def openBase : State := { base with launch := { base.launch with codeLo := 1#16, codeHi := 0#16, refuseUnstated := false } }

/-- `base` where unstated results are free values. -/
def freeBase : State := { base with launch := { base.launch with refuseUnstated := false } }

/-- `base` with memory from 0x2000 on only. -/
def highBase : State := { base with launch := { base.launch with admitted := [⟨0x2000#16, 0xFFFF#16⟩] } }

/-- The program bytes at 0x2000. -/
def load (s : State) (bs : List Byte) : State := placeBytes s 0x2000#16 bs

/-- The outcome is this next state. -/
def nextIs (o : Host.Outcome State Fault Refusal) (t : State) : Bool :=
  match o with
  | .next u => decide (u = t)
  | _ => false

/-- One step from `s` with the program gives `t` with the program. -/
def runs (bs : List Byte) (s t : State) : Bool := nextIs (step (load s bs)) (load t bs)

/-- The outcome of one step of the program is this refusal. -/
def refuses (bs : List Byte) (s : State) (r : Refusal) : Bool :=
  match step (load s bs) with
  | .refused q => decide (q = r)
  | _ => false

/-- The decoder reads all of `bs` as `i`. -/
def reads (bs : List Byte) (i : Instr) : Bool :=
  match decode bs with
  | .ok (j, []) => decide (j = i)
  | _ => false

/-- The decoder reads each word as its instruction. -/
def allRead (l : List (List Byte × Instr)) : Bool := l.all fun p => reads p.1 p.2

/-! ## Well-formedness -/

theorem test_illformed_loads :
    WellFormed (.lds (.mem (.idx (.auto .sp true 0)))) = false ∧
    WellFormed (.ldx (.mem (.idx (.auto .x false 15)))) = false ∧
    WellFormed (.ldy (.mem (.idx (.auto .y true 7)))) = false := by decide

theorem test_illformed_stores :
    WellFormed (.sts (.idx (.auto .sp false 8))) = false ∧ WellFormed (.stx (.idx (.auto .x true 1))) = false ∧
    WellFormed (.sty (.idx (.auto .y false 14))) = false := by decide

theorem test_illformed_compares :
    WellFormed (.cps (.mem (.idx (.auto .sp true 1)))) = false ∧
    WellFormed (.cpx (.mem (.idx (.auto .x true 1)))) = false ∧
    WellFormed (.cpy (.mem (.idx (.auto .y true 1)))) = false := by decide

theorem test_illformed_leas :
    WellFormed (.leas (.auto .x true 0)) = false ∧ WellFormed (.leax (.indN16 .sp 0x1000)) = false ∧
    WellFormed (.leay (.indD .pc)) = false := by decide

theorem test_illformed_moves :
    WellFormed (.movb (.idx (.n9 .x 0)) (.ext 0)) = false ∧ WellFormed (.movb (.imm 0) (.idx (.n5 .pc 0))) = false ∧
    WellFormed (.movw (.idx (.indD .x)) (.ext 0)) = false ∧ WellFormed (.movw (.imm 0) (.idx (.n16 .x 0))) = false ∧
    WellFormed (.movw (.idx (.indN16 .y 0)) (.ext 0)) = false ∧
    WellFormed (.movb (.ext 0) (.idx (.acc .pc .a))) = false := by decide

theorem test_wellformed_neighbours :
    WellFormed (.lds (.mem (.idx (.auto .x true 0)))) = true ∧ WellFormed (.leas (.n16 .pc 0x1000)) = true ∧
    WellFormed (.movb (.idx (.auto .sp true 0)) (.idx (.acc .y .d))) = true := by decide

/-! ## Words -/

theorem test_decode_loads : allRead [
    ([0x86#8, 0x80#8], .ldaa (.imm 0x80)),
    ([0xD6#8, 0x10#8], .ldab (.mem (.dir 0x10))),
    ([0xFC#8, 0x10#8, 0x00#8], .ldd (.mem (.ext 0x1000))),
    ([0xCF#8, 0x40#8, 0x00#8], .lds (.imm 0x4000)),
    ([0xEE#8, 0xE1#8, 0x00#8], .ldx (.mem (.idx (.n9 .x 0x100)))),
    ([0xED#8, 0xE5#8], .ldy (.mem (.idx (.acc .x .b)))),
    ([0x1B#8, 0x9E#8], .leas (.n5 .sp 30)),
    ([0x1A#8, 0xFA#8, 0x10#8, 0x00#8], .leax (.n16 .pc 0x1000)),
    ([0x19#8, 0xE6#8], .leay (.acc .x .d)),
    ([0x7A#8, 0x10#8, 0x02#8], .staa (.ext 0x1002)),
    ([0x5B#8, 0x7F#8], .stab (.dir 0x7F)),
    ([0x6C#8, 0xAE#8], .std (.idx (.auto .sp false 14))),
    ([0x7F#8, 0x10#8, 0x00#8], .sts (.ext 0x1000)),
    ([0x6E#8, 0xEF#8], .stx (.idx (.indD .y))),
    ([0x6D#8, 0xF3#8, 0x12#8, 0x34#8], .sty (.idx (.indN16 .sp 0x1234)))] = true := by decide

theorem test_decode_transfers : allRead [
    ([0xB7#8, 0x01#8], .tfr (.r8 .a) (.r8 .b)),
    ([0xB7#8, 0x52#8], .tfr (.r16 .x) (.r8 .ccr)),
    ([0xB7#8, 0x81#8], .exg (.r8 .a) (.r8 .b)),
    ([0xB7#8, 0xF4#8], .exg (.r16 .sp) (.r16 .d)),
    ([0xB7#8, 0x15#8], .sex .b .x),
    ([0x18#8, 0x0E#8], .tab), ([0x18#8, 0x0F#8], .tba),
    ([0xB7#8, 0x02#8], .tap), ([0xB7#8, 0x20#8], .tpa),
    ([0xB7#8, 0x75#8], .tsx), ([0xB7#8, 0x76#8], .tsy),
    ([0xB7#8, 0x57#8], .txs), ([0xB7#8, 0x67#8], .tys),
    ([0xB7#8, 0xC5#8], .xgdx), ([0xB7#8, 0xC6#8], .xgdy)] = true := by decide

theorem test_decode_moves : allRead [
    ([0x18#8, 0x08#8, 0x70#8, 0xAA#8], .movb (.imm 0xAA) (.idx (.auto .y true 0))),
    ([0x18#8, 0x09#8, 0x41#8, 0x10#8, 0x00#8], .movb (.ext 0x1000) (.idx (.n5 .y 1))),
    ([0x18#8, 0x0A#8, 0x30#8, 0x6F#8], .movb (.idx (.auto .x true 0)) (.idx (.auto .y false 15))),
    ([0x18#8, 0x0B#8, 0xAA#8, 0x10#8, 0x00#8], .movb (.imm 0xAA) (.ext 0x1000)),
    ([0x18#8, 0x0C#8, 0x10#8, 0x00#8, 0x10#8, 0x01#8], .movb (.ext 0x1000) (.ext 0x1001)),
    ([0x18#8, 0x0D#8, 0x30#8, 0x10#8, 0x05#8], .movb (.idx (.auto .x true 0)) (.ext 0x1005)),
    ([0x18#8, 0x00#8, 0x02#8, 0x12#8, 0x34#8], .movw (.imm 0x1234) (.idx (.n5 .x 2))),
    ([0x18#8, 0x01#8, 0x40#8, 0x10#8, 0x00#8], .movw (.ext 0x1000) (.idx (.n5 .y 0))),
    ([0x18#8, 0x02#8, 0x00#8, 0xF6#8], .movw (.idx (.n5 .x 0)) (.idx (.acc .sp .d))),
    ([0x18#8, 0x03#8, 0x12#8, 0x34#8, 0x10#8, 0x00#8], .movw (.imm 0x1234) (.ext 0x1000)),
    ([0x18#8, 0x04#8, 0x10#8, 0x00#8, 0x10#8, 0x02#8], .movw (.ext 0x1000) (.ext 0x1002)),
    ([0x18#8, 0x05#8, 0xE5#8, 0x10#8, 0x02#8], .movw (.idx (.acc .x .b)) (.ext 0x1002))] = true := by decide

theorem test_decode_stack : allRead [
    ([0x1B#8, 0x9F#8], .des), ([0x1B#8, 0x81#8], .ins),
    ([0x8F#8, 0x40#8, 0x00#8], .cps (.imm 0x4000)),
    ([0x36#8], .psha), ([0x37#8], .pshb), ([0x39#8], .pshc), ([0x18#8, 0x39#8], .pshcw),
    ([0x3B#8], .pshd), ([0x34#8], .pshx), ([0x35#8], .pshy),
    ([0x32#8], .pula), ([0x33#8], .pulb), ([0x38#8], .pulc), ([0x18#8, 0x38#8], .pulcw),
    ([0x3A#8], .puld), ([0x30#8], .pulx), ([0x31#8], .puly)] = true := by decide

theorem test_decode_additions : allRead [
    ([0x18#8, 0x06#8], .aba), ([0x1A#8, 0xE5#8], .abx), ([0x19#8, 0xED#8], .aby),
    ([0x89#8, 0x01#8], .adca (.imm 1)), ([0xD9#8, 0x10#8], .adcb (.mem (.dir 0x10))),
    ([0xBB#8, 0x10#8, 0x01#8], .adda (.mem (.ext 0x1001))), ([0xEB#8, 0x1F#8], .addb (.mem (.idx (.n5 .x 31)))),
    ([0xF3#8, 0x10#8, 0x02#8], .addd (.mem (.ext 0x1002))),
    ([0x18#8, 0x16#8], .sba),
    ([0x92#8, 0x10#8], .sbca (.mem (.dir 0x10))), ([0xC2#8, 0x01#8], .sbcb (.imm 1)),
    ([0xA0#8, 0x30#8], .suba (.mem (.idx (.auto .x true 0)))), ([0xF0#8, 0x10#8, 0x00#8], .subb (.mem (.ext 0x1000))),
    ([0x83#8, 0x80#8, 0x00#8], .subd (.imm 0x8000))] = true := by decide

theorem test_decode_increments : allRead [
    ([0x63#8, 0xC0#8], .dec (.idx (.n5 .pc 0))), ([0x43#8], .deca), ([0x53#8], .decb), ([0x09#8], .dex), ([0x03#8], .dey),
    ([0x72#8, 0x10#8, 0x00#8], .inc (.ext 0x1000)), ([0x42#8], .inca), ([0x52#8], .incb), ([0x08#8], .inx),
    ([0x02#8], .iny)] = true := by decide

theorem test_decode_compares : allRead [
    ([0x18#8, 0x17#8], .cba),
    ([0x81#8, 0x10#8], .cmpa (.imm 0x10)), ([0xD1#8, 0x10#8], .cmpb (.mem (.dir 0x10))),
    ([0xBC#8, 0x10#8, 0x00#8], .cpd (.mem (.ext 0x1000))), ([0xAE#8, 0xB1#8], .cpx (.mem (.idx (.auto .sp true 1)))),
    ([0x8D#8, 0x7F#8, 0xFF#8], .cpy (.imm 0x7FFF)),
    ([0xF7#8, 0x10#8, 0x00#8], .tst (.ext 0x1000)), ([0x97#8], .tsta), ([0xD7#8], .tstb)] = true := by decide

theorem test_decode_clears : allRead [
    ([0x10#8, 0xFE#8], .clc), ([0x10#8, 0xEF#8], .cli), ([0x10#8, 0xFD#8], .clv),
    ([0x79#8, 0x10#8, 0x00#8], .clr (.ext 0x1000)), ([0x87#8], .clra), ([0xC7#8], .clrb),
    ([0x61#8, 0x40#8], .com (.idx (.n5 .y 0))), ([0x41#8], .coma), ([0x51#8], .comb),
    ([0x70#8, 0x10#8, 0x00#8], .neg (.ext 0x1000)), ([0x40#8], .nega), ([0x50#8], .negb)] = true := by decide

theorem test_decode_multiplies : allRead [
    ([0x13#8], .emul), ([0x18#8, 0x13#8], .emuls), ([0x12#8], .mul),
    ([0x11#8], .ediv), ([0x18#8, 0x14#8], .edivs), ([0x18#8, 0x11#8], .fdiv), ([0x18#8, 0x10#8], .idiv),
    ([0x18#8, 0x15#8], .idivs)] = true := by decide

theorem test_decode_logic : allRead [
    ([0xB4#8, 0x10#8, 0x00#8], .anda (.mem (.ext 0x1000))), ([0xC4#8, 0x0F#8], .andb (.imm 0x0F)),
    ([0x10#8, 0xAF#8], .andcc 0xAF), ([0x88#8, 0x5A#8], .eora (.imm 0x5A)), ([0xD8#8, 0x10#8], .eorb (.mem (.dir 0x10))),
    ([0xAA#8, 0x00#8], .oraa (.mem (.idx (.n5 .x 0)))), ([0xCA#8, 0x80#8], .orab (.imm 0x80)),
    ([0x14#8, 0x10#8], .orcc 0x10)] = true := by decide

theorem test_decode_shifts : allRead [
    ([0x74#8, 0x10#8, 0x00#8], .lsr (.ext 0x1000)), ([0x44#8], .lsra), ([0x54#8], .lsrb), ([0x49#8], .lsrd),
    ([0x68#8, 0x00#8], .asl (.idx (.n5 .x 0))), ([0x48#8], .asla), ([0x58#8], .aslb), ([0x59#8], .asld),
    ([0x67#8, 0x40#8], .asr (.idx (.n5 .y 0))), ([0x47#8], .asra), ([0x57#8], .asrb),
    ([0x75#8, 0x10#8, 0x00#8], .rol (.ext 0x1000)), ([0x45#8], .rola), ([0x55#8], .rolb),
    ([0x66#8, 0x30#8], .ror (.idx (.auto .x true 0))), ([0x46#8], .rora), ([0x56#8], .rorb)] = true := by decide

/-- R99, R336 to R339: the second names of ASL have ASL's bytes, which the decoder reads as ASL. -/
theorem test_words_of_lsl :
    encode (.lsl (.ext 0x1001)) = [0x78#8, 0x10#8, 0x01#8] ∧ encode .lsla = [0x48#8] ∧ encode .lslb = [0x58#8] ∧
    encode .lsld = [0x59#8] ∧ reads [0x78#8, 0x10#8, 0x01#8] (.asl (.ext 0x1001)) = true := by decide

/-- The host's numbering of a word: byte 0 lowest. -/
theorem test_table_word :
    decodeTableWord 16 0x0E18 = some .tab ∧ decodeTableWord 8 0xB7 = some (.tfr (.r8 .a) (.r8 .a)) ∧
    decodeTableWord 8 0xA7 = none := by decide

/-- R85: `nnnn` 0 to 7 steps +1 to +8, 8 to 15 steps -8 to -1. -/
theorem test_auto_step :
    autoStep 0 = 1#16 ∧ autoStep 7 = 8#16 ∧ autoStep 8 = 0xFFF8#16 ∧ autoStep 15 = 0xFFFF#16 := by decide

/-! ## Single steps

Flags a vector does not give a start for begin at the opposite of their end. -/

/-! ### Loads, stores, LEA (V40) -/

/-- V40.2: `LDAA #$00`. -/
theorem test_ldaa : runs [0x86#8, 0x00#8]
    { base with ccr := 0xFB#8 }
    { base with a := 0x00#8, pc := 0x2002#16, ccr := 0xF5#8 } = true := by decide

/-- V40.3: `LDAB $10`. -/
theorem test_ldab : runs [0xD6#8, 0x10#8]
    { base with ccr := 0xFF#8, mem := [(0x0010, 0x7F#8)] }
    { base with b := 0x7F#8, pc := 0x2002#16, ccr := 0xF1#8, mem := [(0x0010, 0x7F#8)] } = true := by decide

/-- V40.4: `LDD $1000`. -/
theorem test_ldd : runs [0xFC#8, 0x10#8, 0x00#8]
    { base with ccr := 0xFF#8, mem := [(0x1000, 0x12#8), (0x1001, 0x34#8)] }
    { base with a := 0x12#8, b := 0x34#8, pc := 0x2003#16, ccr := 0xF1#8,
                mem := [(0x1000, 0x12#8), (0x1001, 0x34#8)] } = true := by decide

/-- V40.5: `LDX $FFFF`. -/
theorem test_ldx : runs [0xFE#8, 0xFF#8, 0xFF#8]
    { base with ccr := 0xFF#8, mem := [(0x0000, 0x34#8), (0xFFFF, 0x12#8)] }
    { base with x := 0x1234#16, pc := 0x2003#16, ccr := 0xF1#8,
                mem := [(0x0000, 0x34#8), (0xFFFF, 0x12#8)] } = true := by decide

/-- V40.6: `LDAB 1,X+`. -/
theorem test_ldab_second : runs [0xE6#8, 0x30#8]
    { base with x := 0x1000#16, ccr := 0xFF#8, mem := [(0x1000, 0x7F#8)] }
    { base with x := 0x1001#16, b := 0x7F#8, pc := 0x2002#16, ccr := 0xF1#8,
                mem := [(0x1000, 0x7F#8)] } = true := by decide

/-- V40.10: `LDAA $1000,X`. -/
theorem test_ldaa_second : runs [0xA6#8, 0xE2#8, 0x10#8, 0x00#8]
    { base with x := 0xF001#16, ccr := 0xF7#8, mem := [(0x0001, 0xAA#8)] }
    { base with x := 0xF001#16, a := 0xAA#8, pc := 0x2004#16, ccr := 0xF9#8,
                mem := [(0x0001, 0xAA#8)] } = true := by decide

/-- V40.11: `LDY B,X`. -/
theorem test_ldy : runs [0xED#8, 0xE5#8]
    { base with b := 0x80#8, x := 0x1000#16, ccr := 0xF7#8, mem := [(0x1080, 0xBE#8), (0x1081, 0xEF#8)] }
    { base with b := 0x80#8, x := 0x1000#16, y := 0xBEEF#16, pc := 0x2002#16, ccr := 0xF9#8,
                mem := [(0x1080, 0xBE#8), (0x1081, 0xEF#8)] } = true := by decide

/-- V40.13: `LDS #$4000`. -/
theorem test_lds : runs [0xCF#8, 0x40#8, 0x00#8]
    { base with ccr := 0xFF#8 }
    { base with sp := 0x4000#16, pc := 0x2003#16, ccr := 0xF1#8 } = true := by decide

/-- V40.14: `STAA $1002`. -/
theorem test_staa : runs [0x7A#8, 0x10#8, 0x02#8]
    { base with a := 0x00#8, ccr := 0xFB#8, mem := [(0x1002, 0xFF#8)] }
    { base with a := 0x00#8, pc := 0x2003#16, ccr := 0xF5#8, mem := [] } = true := by decide

/-- V40.16: `STD 2,-SP`. -/
theorem test_std : runs [0x6C#8, 0xAE#8]
    { base with a := 0x12#8, b := 0x34#8, sp := 0x4000#16, ccr := 0xFF#8 }
    { base with a := 0x12#8, b := 0x34#8, sp := 0x3FFE#16, pc := 0x2002#16, ccr := 0xF1#8,
                mem := [(0x3FFE, 0x12#8), (0x3FFF, 0x34#8)] } = true := by decide

/-- V40.17: `STS $1000`. -/
theorem test_sts : runs [0x7F#8, 0x10#8, 0x00#8]
    { base with sp := 0x3FFC#16, ccr := 0xFF#8 }
    { base with sp := 0x3FFC#16, pc := 0x2003#16, ccr := 0xF1#8,
                mem := [(0x1000, 0x3F#8), (0x1001, 0xFC#8)] } = true := by decide

/-- V40.18: `STX $FFFF`. -/
theorem test_stx : runs [0x7E#8, 0xFF#8, 0xFF#8]
    { base with x := 0xABCD#16, ccr := 0xF7#8 }
    { base with x := 0xABCD#16, pc := 0x2003#16, ccr := 0xF9#8,
                mem := [(0x0000, 0xCD#8), (0xFFFF, 0xAB#8)] } = true := by decide

/-- V40.19: `LEAX 4,X`. -/
theorem test_leax : runs [0x1A#8, 0x04#8]
    { base with x := 0xFFFE#16, ccr := 0xF1#8 }
    { base with x := 0x0002#16, pc := 0x2002#16, ccr := 0xF1#8 } = true := by decide

/-- V40.20: `LEAS -2,SP`. -/
theorem test_leas : runs [0x1B#8, 0x9E#8]
    { base with sp := 0x4000#16 }
    { base with sp := 0x3FFE#16, pc := 0x2002#16 } = true := by decide

/-- V40.21: `LEAY D,X`. -/
theorem test_leay : runs [0x19#8, 0xE6#8]
    { base with a := 0xF0#8, b := 0x00#8, x := 0x1000#16 }
    { base with a := 0xF0#8, b := 0x00#8, x := 0x1000#16, y := 0x0000#16, pc := 0x2002#16 } = true := by decide

/-- V40.23: `LEAX $1000,PC`. -/
theorem test_leax_second : runs [0x1A#8, 0xFA#8, 0x10#8, 0x00#8]
    base
    { base with x := 0x3004#16, pc := 0x2004#16 } = true := by decide


/-! ### Transfers, exchanges, moves (V41) -/

/-- V41.1: `TFR A,B`. -/
theorem test_tfr : runs [0xB7#8, 0x01#8]
    { base with a := 0x80#8, ccr := 0xF5#8 }
    { base with a := 0x80#8, b := 0x80#8, pc := 0x2002#16, ccr := 0xF5#8 } = true := by decide

/-- V41.2: `TAB`. -/
theorem test_tab : runs [0x18#8, 0x0E#8]
    { base with a := 0x80#8, ccr := 0xF7#8 }
    { base with a := 0x80#8, b := 0x80#8, pc := 0x2002#16, ccr := 0xF9#8 } = true := by decide

/-- V41.3: `TBA`. -/
theorem test_tba : runs [0x18#8, 0x0F#8]
    { base with b := 0x00#8, ccr := 0xFB#8 }
    { base with b := 0x00#8, a := 0x00#8, pc := 0x2002#16, ccr := 0xF5#8 } = true := by decide

/-- V41.4: `TFR X,A`. -/
theorem test_tfr_second : runs [0xB7#8, 0x50#8]
    { base with x := 0x12FE#16 }
    { base with x := 0x12FE#16, a := 0xFE#8, pc := 0x2002#16 } = true := by decide

/-- V41.6: `SEX B,X`. -/
theorem test_sex : runs [0xB7#8, 0x15#8]
    { base with b := 0x80#8 }
    { base with b := 0x80#8, x := 0xFF80#16, pc := 0x2002#16 } = true := by decide

/-- V41.8: `SEX CCR,Y`. -/
theorem test_sex_second : runs [0xB7#8, 0x26#8]
    { base with ccr := 0x91#8 }
    { base with y := 0xFF91#16, pc := 0x2002#16, ccr := 0x91#8 } = true := by decide

/-- V41.9: `TAP`. -/
theorem test_tap : runs [0xB7#8, 0x02#8]
    { base with a := 0xFF#8, ccr := 0x80#8 }
    { base with a := 0xFF#8, pc := 0x2002#16, ccr := 0xBF#8 } = true := by decide

/-- V41.11: `TPA`. -/
theorem test_tpa : runs [0xB7#8, 0x20#8]
    { base with ccr := 0xD5#8 }
    { base with a := 0xD5#8, pc := 0x2002#16, ccr := 0xD5#8 } = true := by decide

/-- V41.12: `TSX`. -/
theorem test_tsx : runs [0xB7#8, 0x75#8]
    { base with sp := 0x3FFC#16 }
    { base with sp := 0x3FFC#16, x := 0x3FFC#16, pc := 0x2002#16 } = true := by decide

/-- V41.13: `TSY`. -/
theorem test_tsy : runs [0xB7#8, 0x76#8]
    { base with sp := 0x3FFC#16 }
    { base with sp := 0x3FFC#16, y := 0x3FFC#16, pc := 0x2002#16 } = true := by decide

/-- V41.14: `TXS`. -/
theorem test_txs : runs [0xB7#8, 0x57#8]
    { base with x := 0x4000#16 }
    { base with x := 0x4000#16, sp := 0x4000#16, pc := 0x2002#16 } = true := by decide

/-- V41.15: `TYS`. -/
theorem test_tys : runs [0xB7#8, 0x67#8]
    { base with y := 0x4000#16 }
    { base with y := 0x4000#16, sp := 0x4000#16, pc := 0x2002#16 } = true := by decide

/-- V41.17: `XGDX`. -/
theorem test_xgdx : runs [0xB7#8, 0xC5#8]
    { base with a := 0x12#8, b := 0x34#8, x := 0xABCD#16 }
    { base with a := 0xAB#8, b := 0xCD#8, x := 0x1234#16, pc := 0x2002#16 } = true := by decide

/-- V41.18: `XGDY`. -/
theorem test_xgdy : runs [0xB7#8, 0xC6#8]
    { base with a := 0x12#8, b := 0x34#8, y := 0xABCD#16 }
    { base with a := 0xAB#8, b := 0xCD#8, y := 0x1234#16, pc := 0x2002#16 } = true := by decide

/-- V41.20: `EXG A,CCR`. -/
theorem test_exg : runs [0xB7#8, 0x82#8]
    { base with a := 0x40#8, ccr := 0x01#8 }
    { base with a := 0x01#8, pc := 0x2002#16, ccr := 0x00#8 } = true := by decide

/-- V41.25: `MOVW #$1234,2,X`. -/
theorem test_movw : runs [0x18#8, 0x00#8, 0x02#8, 0x12#8, 0x34#8]
    { base with x := 0x1000#16 }
    { base with x := 0x1000#16, pc := 0x2005#16, mem := [(0x1002, 0x12#8), (0x1003, 0x34#8)] } = true := by decide

/-- V41.28: `MOVB 1,X+,$1005`. -/
theorem test_movb : runs [0x18#8, 0x0D#8, 0x30#8, 0x10#8, 0x05#8]
    { base with x := 0x1000#16, mem := [(0x1000, 0x77#8)] }
    { base with x := 0x1001#16, pc := 0x2005#16, mem := [(0x1000, 0x77#8), (0x1005, 0x77#8)] } = true := by decide

/-- V41.29: `MOVB 1,X+,1,X+`. -/
theorem test_movb_second : runs [0x18#8, 0x0A#8, 0x30#8, 0x30#8]
    { base with x := 0x1000#16, mem := [(0x1000, 0x11#8), (0x1001, 0x22#8)] }
    { base with x := 0x1002#16, pc := 0x2004#16, mem := [(0x1000, 0x11#8), (0x1001, 0x11#8)] } = true := by decide

/-- V41.30: `MOVW 0,X,1,X`. -/
theorem test_movw_second : runs [0x18#8, 0x02#8, 0x00#8, 0x01#8]
    { base with x := 0x1000#16, mem := [(0x1000, 0x12#8), (0x1001, 0x34#8), (0x1002, 0x56#8)] }
    { base with x := 0x1000#16, pc := 0x2004#16,
                mem := [(0x1000, 0x12#8), (0x1001, 0x12#8), (0x1002, 0x34#8)] } = true := by decide


/-! ### Stack (V42) -/

/-- V42.1: `PSHA`. -/
theorem test_psha : runs [0x36#8]
    { base with a := 0x5A#8, sp := 0x0000#16 }
    { base with a := 0x5A#8, sp := 0xFFFF#16, pc := 0x2001#16, mem := [(0xFFFF, 0x5A#8)] } = true := by decide

/-- V42.2: `PSHB`. -/
theorem test_pshb : runs [0x37#8]
    { base with b := 0xA5#8, sp := 0x4000#16 }
    { base with b := 0xA5#8, sp := 0x3FFF#16, pc := 0x2001#16, mem := [(0x3FFF, 0xA5#8)] } = true := by decide

/-- V42.3: `PSHC`. -/
theorem test_pshc : runs [0x39#8]
    { base with sp := 0x4000#16, ccr := 0xD5#8 }
    { base with sp := 0x3FFF#16, pc := 0x2001#16, ccr := 0xD5#8, mem := [(0x3FFF, 0xD5#8)] } = true := by decide

/-- V42.4: `PSHD`. -/
theorem test_pshd : runs [0x3B#8]
    { base with a := 0x12#8, b := 0x34#8, sp := 0x4000#16 }
    { base with a := 0x12#8, b := 0x34#8, sp := 0x3FFE#16, pc := 0x2001#16,
                mem := [(0x3FFE, 0x12#8), (0x3FFF, 0x34#8)] } = true := by decide

/-- V42.5: `PSHX`. -/
theorem test_pshx : runs [0x34#8]
    { base with x := 0xABCD#16, sp := 0x3FFE#16 }
    { base with x := 0xABCD#16, sp := 0x3FFC#16, pc := 0x2001#16,
                mem := [(0x3FFC, 0xAB#8), (0x3FFD, 0xCD#8)] } = true := by decide

/-- V42.6: `PSHY`. -/
theorem test_pshy : runs [0x35#8]
    { base with y := 0x0102#16, sp := 0x4000#16 }
    { base with y := 0x0102#16, sp := 0x3FFE#16, pc := 0x2001#16,
                mem := [(0x3FFE, 0x01#8), (0x3FFF, 0x02#8)] } = true := by decide

/-- V42.7: `PSHCW`. -/
theorem test_pshcw : runs [0x18#8, 0x39#8]
    { base with sp := 0x4000#16, ccrh := 0x05#8, ccr := 0x91#8 }
    { base with sp := 0x3FFE#16, ccrh := 0x05#8, pc := 0x2002#16, ccr := 0x91#8,
                mem := [(0x3FFE, 0x05#8), (0x3FFF, 0x91#8)] } = true := by decide

/-- V42.8: `PULA`. -/
theorem test_pula : runs [0x32#8]
    { base with sp := 0x3FFF#16, ccr := 0xF1#8, mem := [] }
    { base with sp := 0x4000#16, a := 0x00#8, pc := 0x2001#16, ccr := 0xF1#8, mem := [] } = true := by decide

/-- V42.9: `PULB`. -/
theorem test_pulb : runs [0x33#8]
    { base with sp := 0x3FFC#16, mem := [(0x3FFC, 0xAB#8)] }
    { base with sp := 0x3FFD#16, b := 0xAB#8, pc := 0x2001#16, mem := [(0x3FFC, 0xAB#8)] } = true := by decide

/-- V42.10: `PULX`. -/
theorem test_pulx : runs [0x30#8]
    { base with sp := 0x3FFD#16, mem := [(0x3FFD, 0xCD#8), (0x3FFE, 0x12#8)] }
    { base with sp := 0x3FFF#16, x := 0xCD12#16, pc := 0x2001#16,
                mem := [(0x3FFD, 0xCD#8), (0x3FFE, 0x12#8)] } = true := by decide

/-- V42.11: `PULY`. -/
theorem test_puly : runs [0x31#8]
    { base with sp := 0xFFFF#16, mem := [(0x0000, 0x34#8), (0xFFFF, 0x12#8)] }
    { base with sp := 0x0001#16, y := 0x1234#16, pc := 0x2001#16,
                mem := [(0x0000, 0x34#8), (0xFFFF, 0x12#8)] } = true := by decide

/-- V42.12: `PULD`. -/
theorem test_puld : runs [0x3A#8]
    { base with sp := 0x3FFE#16, mem := [(0x3FFE, 0x12#8), (0x3FFF, 0x34#8)] }
    { base with sp := 0x4000#16, a := 0x12#8, b := 0x34#8, pc := 0x2001#16,
                mem := [(0x3FFE, 0x12#8), (0x3FFF, 0x34#8)] } = true := by decide

/-- V42.13: `PULC`. -/
theorem test_pulc : runs [0x38#8]
    { base with sp := 0x3FFF#16, ccr := 0x80#8, mem := [(0x3FFF, 0xFF#8)] }
    { base with sp := 0x4000#16, pc := 0x2001#16, ccr := 0xBF#8, mem := [(0x3FFF, 0xFF#8)] } = true := by decide

/-- V42.15: `PULCW`. -/
theorem test_pulcw : runs [0x18#8, 0x38#8]
    { base with sp := 0x3FFE#16, ccrh := 0x00#8, ccr := 0xC0#8, mem := [(0x3FFE, 0xFF#8), (0x3FFF, 0x01#8)] }
    { base with sp := 0x4000#16, ccrh := 0xFF#8, pc := 0x2002#16, ccr := 0x01#8,
                mem := [(0x3FFE, 0xFF#8), (0x3FFF, 0x01#8)] } = true := by decide

/-- V42.17: `DES`. -/
theorem test_des : runs [0x1B#8, 0x9F#8]
    { base with sp := 0x0000#16, ccr := 0xF1#8 }
    { base with sp := 0xFFFF#16, pc := 0x2002#16, ccr := 0xF1#8 } = true := by decide

/-- V42.18: `INS`. -/
theorem test_ins : runs [0x1B#8, 0x81#8]
    { base with sp := 0xFFFF#16, ccr := 0xF1#8 }
    { base with sp := 0x0000#16, pc := 0x2002#16, ccr := 0xF1#8 } = true := by decide

/-- V42.20: `CPS $1000`. -/
theorem test_cps : runs [0xBF#8, 0x10#8, 0x00#8]
    { base with sp := 0x3FFF#16, ccr := 0xF6#8, mem := [(0x1000, 0x40#8)] }
    { base with sp := 0x3FFF#16, pc := 0x2003#16, ccr := 0xF9#8, mem := [(0x1000, 0x40#8)] } = true := by decide


/-! ### Addition, subtraction (V43) -/

/-- V43.1: `ADDA #$01`. -/
theorem test_adda : runs [0x8B#8, 0x01#8]
    { base with a := 0xFF#8, ccr := 0xDA#8 }
    { base with a := 0x00#8, pc := 0x2002#16, ccr := 0xF5#8 } = true := by decide

/-- V43.3: `ADDA #$80`. -/
theorem test_adda_second : runs [0x8B#8, 0x80#8]
    { base with a := 0x80#8, ccr := 0xF8#8 }
    { base with a := 0x00#8, pc := 0x2002#16, ccr := 0xD7#8 } = true := by decide

/-- V43.4: `ADDB $1001`. -/
theorem test_addb : runs [0xFB#8, 0x10#8, 0x01#8]
    { base with b := 0x0F#8, ccr := 0xDF#8, mem := [(0x1001, 0x01#8)] }
    { base with b := 0x10#8, pc := 0x2003#16, ccr := 0xF0#8, mem := [(0x1001, 0x01#8)] } = true := by decide

/-- V43.5: `ADCA #$00`. -/
theorem test_adca : runs [0x89#8, 0x00#8]
    { base with a := 0xFF#8, ccr := 0xDB#8 }
    { base with a := 0x00#8, pc := 0x2002#16, ccr := 0xF5#8 } = true := by decide

/-- V43.6: `ADCB #$7F`. -/
theorem test_adcb : runs [0xC9#8, 0x7F#8]
    { base with b := 0x00#8, ccr := 0xD5#8 }
    { base with b := 0x80#8, pc := 0x2002#16, ccr := 0xFA#8 } = true := by decide

/-- V43.8: `ADDD #$0001`. -/
theorem test_addd : runs [0xC3#8, 0x00#8, 0x01#8]
    { base with a := 0x7F#8, b := 0xFF#8, ccr := 0xF5#8 }
    { base with a := 0x80#8, b := 0x00#8, pc := 0x2003#16, ccr := 0xFA#8 } = true := by decide

/-- V43.10: `ABA`. -/
theorem test_aba : runs [0x18#8, 0x06#8]
    { base with a := 0x3C#8, b := 0xC4#8, ccr := 0xDA#8 }
    { base with a := 0x00#8, b := 0xC4#8, pc := 0x2002#16, ccr := 0xF5#8 } = true := by decide

/-- V43.11: `ABX`. -/
theorem test_abx : runs [0x1A#8, 0xE5#8]
    { base with b := 0xFF#8, x := 0xFF01#16, ccr := 0xF0#8 }
    { base with b := 0xFF#8, x := 0x0000#16, pc := 0x2002#16, ccr := 0xF0#8 } = true := by decide

/-- V43.12: `ABY`. -/
theorem test_aby : runs [0x19#8, 0xED#8]
    { base with b := 0x80#8, y := 0x1000#16 }
    { base with b := 0x80#8, y := 0x1080#16, pc := 0x2002#16 } = true := by decide

/-- V43.13: `SUBA #$01`. -/
theorem test_suba : runs [0x80#8, 0x01#8]
    { base with a := 0x00#8, ccr := 0xF6#8 }
    { base with a := 0xFF#8, pc := 0x2002#16, ccr := 0xF9#8 } = true := by decide

/-- V43.14: `SUBA #$01`. -/
theorem test_suba_second : runs [0x80#8, 0x01#8]
    { base with a := 0x80#8, ccr := 0xFD#8 }
    { base with a := 0x7F#8, pc := 0x2002#16, ccr := 0xF2#8 } = true := by decide

/-- V43.15: `SUBB #$34`. -/
theorem test_subb : runs [0xC0#8, 0x34#8]
    { base with b := 0x34#8, ccr := 0xFB#8 }
    { base with b := 0x00#8, pc := 0x2002#16, ccr := 0xF4#8 } = true := by decide

/-- V43.16: `SBCA #$00`. -/
theorem test_sbca : runs [0x82#8, 0x00#8]
    { base with a := 0x00#8, ccr := 0xF7#8 }
    { base with a := 0xFF#8, pc := 0x2002#16, ccr := 0xF9#8 } = true := by decide

/-- V43.17: `SBCB $1000`. -/
theorem test_sbcb : runs [0xF2#8, 0x10#8, 0x00#8]
    { base with b := 0x80#8, ccr := 0xF9#8, mem := [(0x1000, 0x7F#8)] }
    { base with b := 0x00#8, pc := 0x2003#16, ccr := 0xF6#8, mem := [(0x1000, 0x7F#8)] } = true := by decide

/-- V43.18: `SUBD #$0001`. -/
theorem test_subd : runs [0x83#8, 0x00#8, 0x01#8]
    { base with a := 0x80#8, b := 0x00#8, ccr := 0xFD#8 }
    { base with a := 0x7F#8, b := 0xFF#8, pc := 0x2003#16, ccr := 0xF2#8 } = true := by decide

/-- V43.20: `SBA`. -/
theorem test_sba : runs [0x18#8, 0x16#8]
    { base with a := 0x10#8, b := 0x20#8, ccr := 0xF6#8 }
    { base with a := 0xF0#8, b := 0x20#8, pc := 0x2002#16, ccr := 0xF9#8 } = true := by decide


/-! ### Increment, decrement (V44) -/

/-- V44.1: `INCA`. -/
theorem test_inca : runs [0x42#8]
    { base with a := 0x7F#8, ccr := 0xF5#8 }
    { base with a := 0x80#8, pc := 0x2001#16, ccr := 0xFB#8 } = true := by decide

/-- V44.3: `INCB`. -/
theorem test_incb : runs [0x52#8]
    { base with b := 0x00#8, ccr := 0xFF#8 }
    { base with b := 0x01#8, pc := 0x2001#16, ccr := 0xF1#8 } = true := by decide

/-- V44.4: `INC $1000`. -/
theorem test_inc : runs [0x72#8, 0x10#8, 0x00#8]
    { base with ccr := 0xF5#8, mem := [(0x1000, 0x7F#8)] }
    { base with pc := 0x2003#16, ccr := 0xFB#8, mem := [(0x1000, 0x80#8)] } = true := by decide

/-- V44.6: `DECA`. -/
theorem test_deca : runs [0x43#8]
    { base with a := 0x80#8, ccr := 0xFD#8 }
    { base with a := 0x7F#8, pc := 0x2001#16, ccr := 0xF3#8 } = true := by decide

/-- V44.8: `DECB`. -/
theorem test_decb : runs [0x53#8]
    { base with b := 0x01#8, ccr := 0xFB#8 }
    { base with b := 0x00#8, pc := 0x2001#16, ccr := 0xF5#8 } = true := by decide

/-- V44.9: `DEC $1000`. -/
theorem test_dec : runs [0x73#8, 0x10#8, 0x00#8]
    { base with ccr := 0xFB#8, mem := [(0x1000, 0x01#8)] }
    { base with pc := 0x2003#16, ccr := 0xF5#8, mem := [] } = true := by decide

/-- V44.10: `INX`. -/
theorem test_inx : runs [0x08#8]
    { base with x := 0xFFFF#16, ccr := 0xF9#8 }
    { base with x := 0x0000#16, pc := 0x2001#16, ccr := 0xFD#8 } = true := by decide

/-- V44.11: `INY`. -/
theorem test_iny : runs [0x02#8]
    { base with y := 0x7FFF#16, ccr := 0xF5#8 }
    { base with y := 0x8000#16, pc := 0x2001#16, ccr := 0xF1#8 } = true := by decide

/-- V44.12: `DEX`. -/
theorem test_dex : runs [0x09#8]
    { base with x := 0x0000#16, ccr := 0xF5#8 }
    { base with x := 0xFFFF#16, pc := 0x2001#16, ccr := 0xF1#8 } = true := by decide

/-- V44.13: `DEY`. -/
theorem test_dey : runs [0x03#8]
    { base with y := 0x0001#16, ccr := 0xF1#8 }
    { base with y := 0x0000#16, pc := 0x2001#16, ccr := 0xF5#8 } = true := by decide


/-! ### Compare, test (V45) -/

/-- V45.1: `CMPA #$10`. -/
theorem test_cmpa : runs [0x81#8, 0x10#8]
    { base with a := 0x10#8, ccr := 0xFB#8 }
    { base with a := 0x10#8, pc := 0x2002#16, ccr := 0xF4#8 } = true := by decide

/-- V45.2: `CMPA #$20`. -/
theorem test_cmpa_second : runs [0x81#8, 0x20#8]
    { base with a := 0x10#8, ccr := 0xF6#8 }
    { base with a := 0x10#8, pc := 0x2002#16, ccr := 0xF9#8 } = true := by decide

/-- V45.3: `CMPB #$01`. -/
theorem test_cmpb : runs [0xC1#8, 0x01#8]
    { base with b := 0x80#8, ccr := 0xFD#8 }
    { base with b := 0x80#8, pc := 0x2002#16, ccr := 0xF2#8 } = true := by decide

/-- V45.5: `CBA`. -/
theorem test_cba : runs [0x18#8, 0x17#8]
    { base with a := 0x7F#8, b := 0xFF#8, ccr := 0xF4#8 }
    { base with a := 0x7F#8, b := 0xFF#8, pc := 0x2002#16, ccr := 0xFB#8 } = true := by decide

/-- V45.6: `CPD #$1234`. -/
theorem test_cpd : runs [0x8C#8, 0x12#8, 0x34#8]
    { base with a := 0x12#8, b := 0x34#8, ccr := 0xFB#8 }
    { base with a := 0x12#8, b := 0x34#8, pc := 0x2003#16, ccr := 0xF4#8 } = true := by decide

/-- V45.7: `CPX $1000`. -/
theorem test_cpx : runs [0xBE#8, 0x10#8, 0x00#8]
    { base with x := 0x0000#16, ccr := 0xF6#8, mem := [(0x1001, 0x01#8)] }
    { base with x := 0x0000#16, pc := 0x2003#16, ccr := 0xF9#8, mem := [(0x1001, 0x01#8)] } = true := by decide

/-- V45.8: `CPY #$7FFF`. -/
theorem test_cpy : runs [0x8D#8, 0x7F#8, 0xFF#8]
    { base with y := 0x8000#16, ccr := 0xFD#8 }
    { base with y := 0x8000#16, pc := 0x2003#16, ccr := 0xF2#8 } = true := by decide

/-- V45.10: `TST $1000`. -/
theorem test_tst : runs [0xF7#8, 0x10#8, 0x00#8]
    { base with ccr := 0xF7#8, mem := [(0x1000, 0x80#8)] }
    { base with pc := 0x2003#16, ccr := 0xF8#8, mem := [(0x1000, 0x80#8)] } = true := by decide

/-- V45.11: `TSTA`. -/
theorem test_tsta : runs [0x97#8]
    { base with a := 0x00#8, ccr := 0xFB#8 }
    { base with a := 0x00#8, pc := 0x2001#16, ccr := 0xF4#8 } = true := by decide

/-- V45.12: `TSTB`. -/
theorem test_tstb : runs [0xD7#8]
    { base with b := 0x7F#8, ccr := 0xFF#8 }
    { base with b := 0x7F#8, pc := 0x2001#16, ccr := 0xF0#8 } = true := by decide


/-! ### Clear, complement, negate (V46) -/

/-- V46.1: `CLC`. -/
theorem test_clc : runs [0x10#8, 0xFE#8]
    { base with ccr := 0xFF#8 }
    { base with pc := 0x2002#16, ccr := 0xFE#8 } = true := by decide

/-- V46.2: `CLI`. -/
theorem test_cli : runs [0x10#8, 0xEF#8]
    { base with ccr := 0xFF#8 }
    { base with pc := 0x2002#16, ccr := 0xEF#8 } = true := by decide

/-- V46.3: `CLV`. -/
theorem test_clv : runs [0x10#8, 0xFD#8]
    { base with ccr := 0xFF#8 }
    { base with pc := 0x2002#16, ccr := 0xFD#8 } = true := by decide

/-- V46.5: `CLRA`. -/
theorem test_clra : runs [0x87#8]
    { base with a := 0x55#8, ccr := 0xFB#8 }
    { base with a := 0x00#8, pc := 0x2001#16, ccr := 0xF4#8 } = true := by decide

/-- V46.6: `CLRB`. -/
theorem test_clrb : runs [0xC7#8]
    { base with ccr := 0xFB#8 }
    { base with b := 0x00#8, pc := 0x2001#16, ccr := 0xF4#8 } = true := by decide

/-- V46.7: `CLR $1000`. -/
theorem test_clr : runs [0x79#8, 0x10#8, 0x00#8]
    { base with ccr := 0xFB#8, mem := [(0x1000, 0xFF#8)] }
    { base with pc := 0x2003#16, ccr := 0xF4#8, mem := [] } = true := by decide

/-- V46.8: `COMA`. -/
theorem test_coma : runs [0x41#8]
    { base with a := 0x00#8, ccr := 0xF6#8 }
    { base with a := 0xFF#8, pc := 0x2001#16, ccr := 0xF9#8 } = true := by decide

/-- V46.9: `COMB`. -/
theorem test_comb : runs [0x51#8]
    { base with b := 0xFF#8, ccr := 0xFA#8 }
    { base with b := 0x00#8, pc := 0x2001#16, ccr := 0xF5#8 } = true := by decide

/-- V46.10: `COM $1000`. -/
theorem test_com : runs [0x71#8, 0x10#8, 0x00#8]
    { base with ccr := 0xF6#8, mem := [(0x1000, 0x5A#8)] }
    { base with pc := 0x2003#16, ccr := 0xF9#8, mem := [(0x1000, 0xA5#8)] } = true := by decide

/-- V46.11: `NEGA`. -/
theorem test_nega : runs [0x40#8]
    { base with a := 0x80#8, ccr := 0xF4#8 }
    { base with a := 0x80#8, pc := 0x2001#16, ccr := 0xFB#8 } = true := by decide

/-- V46.12: `NEGA`. -/
theorem test_nega_second : runs [0x40#8]
    { base with a := 0x00#8, ccr := 0xFB#8 }
    { base with a := 0x00#8, pc := 0x2001#16, ccr := 0xF4#8 } = true := by decide

/-- V46.13: `NEGB`. -/
theorem test_negb : runs [0x50#8]
    { base with b := 0x01#8, ccr := 0xF6#8 }
    { base with b := 0xFF#8, pc := 0x2001#16, ccr := 0xF9#8 } = true := by decide

/-- V46.14: `NEG 0,X`. -/
theorem test_neg : runs [0x60#8, 0x00#8]
    { base with x := 0x1000#16, ccr := 0xF6#8, mem := [(0x1000, 0x7F#8)] }
    { base with x := 0x1000#16, pc := 0x2002#16, ccr := 0xF9#8, mem := [(0x1000, 0x81#8)] } = true := by decide


/-! ### Multiply, divide (V47) -/

/-- V47.1: `EMUL`. -/
theorem test_emul : runs [0x13#8]
    { base with a := 0xFF#8, b := 0xFF#8, y := 0x0010#16, ccr := 0xFC#8 }
    { base with a := 0xFF#8, b := 0xF0#8, y := 0x000F#16, pc := 0x2001#16, ccr := 0xF1#8 } = true := by decide

/-- V47.2: `EMULS`. -/
theorem test_emuls : runs [0x18#8, 0x13#8]
    { base with a := 0xFF#8, b := 0xFF#8, y := 0x0010#16, ccr := 0xF4#8 }
    { base with a := 0xFF#8, b := 0xF0#8, y := 0xFFFF#16, pc := 0x2002#16, ccr := 0xF9#8 } = true := by decide

/-- V47.5: `MUL`. -/
theorem test_mul : runs [0x12#8]
    { base with a := 0x10#8, b := 0x08#8, ccr := 0xFC#8 }
    { base with a := 0x00#8, b := 0x80#8, pc := 0x2001#16, ccr := 0xFD#8 } = true := by decide

/-- V47.7: `EDIV`. -/
theorem test_ediv : runs [0x11#8]
    { base with a := 0x00#8, b := 0x00#8, x := 0x0002#16, y := 0x0001#16, ccr := 0xF7#8 }
    { base with a := 0x00#8, b := 0x00#8, x := 0x0002#16, y := 0x8000#16, pc := 0x2001#16,
                ccr := 0xF8#8 } = true := by decide

/-- V47.10: `EDIVS`. -/
theorem test_edivs : runs [0x18#8, 0x14#8]
    { base with a := 0xFF#8, b := 0xEF#8, x := 0x0010#16, y := 0xFFFF#16, ccr := 0xF7#8 }
    { base with a := 0xFF#8, b := 0xFF#8, x := 0x0010#16, y := 0xFFFF#16, pc := 0x2002#16,
                ccr := 0xF8#8 } = true := by decide

/-- V47.12: `FDIV`. -/
theorem test_fdiv : runs [0x18#8, 0x11#8]
    { base with a := 0x00#8, b := 0x01#8, x := 0x0003#16, ccr := 0xF7#8 }
    { base with a := 0x00#8, b := 0x01#8, x := 0x5555#16, pc := 0x2002#16, ccr := 0xF0#8 } = true := by decide

/-- V47.15: `IDIV`. -/
theorem test_idiv : runs [0x18#8, 0x10#8]
    { base with a := 0xFF#8, b := 0xEF#8, x := 0x0010#16, ccr := 0xF7#8 }
    { base with a := 0x00#8, b := 0x0F#8, x := 0x0FFE#16, pc := 0x2002#16, ccr := 0xF0#8 } = true := by decide

/-- V47.16: `IDIVS`. -/
theorem test_idivs : runs [0x18#8, 0x15#8]
    { base with a := 0xFF#8, b := 0xEF#8, x := 0x0010#16, ccr := 0xF7#8 }
    { base with a := 0xFF#8, b := 0xFF#8, x := 0xFFFF#16, pc := 0x2002#16, ccr := 0xF8#8 } = true := by decide

/-- V47.20: `IDIVS`. -/
theorem test_idivs_second : runs [0x18#8, 0x15#8]
    { base with a := 0x00#8, b := 0x07#8, x := 0xFFFE#16, ccr := 0xF7#8 }
    { base with a := 0x00#8, b := 0x01#8, x := 0xFFFD#16, pc := 0x2002#16, ccr := 0xF8#8 } = true := by decide


/-! ### Logic (V48) -/

/-- V48.1: `ANDA $1000`. -/
theorem test_anda : runs [0xB4#8, 0x10#8, 0x00#8]
    { base with a := 0x1C#8, ccr := 0xFF#8, mem := [(0x1000, 0x2F#8)] }
    { base with a := 0x0C#8, pc := 0x2003#16, ccr := 0xF1#8, mem := [(0x1000, 0x2F#8)] } = true := by decide

/-- V48.2: `EORA $1000`. -/
theorem test_eora : runs [0xB8#8, 0x10#8, 0x00#8]
    { base with a := 0x1C#8, ccr := 0xFF#8, mem := [(0x1000, 0x2F#8)] }
    { base with a := 0x33#8, pc := 0x2003#16, ccr := 0xF1#8, mem := [(0x1000, 0x2F#8)] } = true := by decide

/-- V48.3: `ORAA $1000`. -/
theorem test_oraa : runs [0xBA#8, 0x10#8, 0x00#8]
    { base with a := 0x1C#8, ccr := 0xFF#8, mem := [(0x1000, 0x2F#8)] }
    { base with a := 0x3F#8, pc := 0x2003#16, ccr := 0xF1#8, mem := [(0x1000, 0x2F#8)] } = true := by decide

/-- V48.4: `ANDB #$0F`. -/
theorem test_andb : runs [0xC4#8, 0x0F#8]
    { base with b := 0xF0#8, ccr := 0xFB#8 }
    { base with b := 0x00#8, pc := 0x2002#16, ccr := 0xF5#8 } = true := by decide

/-- V48.5: `EORB #$FF`. -/
theorem test_eorb : runs [0xC8#8, 0xFF#8]
    { base with b := 0x7F#8, ccr := 0xF7#8 }
    { base with b := 0x80#8, pc := 0x2002#16, ccr := 0xF9#8 } = true := by decide

/-- V48.7: `ORAB #$80`. -/
theorem test_orab : runs [0xCA#8, 0x80#8]
    { base with b := 0x01#8, ccr := 0xF7#8 }
    { base with b := 0x81#8, pc := 0x2002#16, ccr := 0xF9#8 } = true := by decide

/-- V48.8: `ANDCC #$AF`. -/
theorem test_andcc : runs [0x10#8, 0xAF#8]
    { base with ccr := 0xD5#8 }
    { base with pc := 0x2002#16, ccr := 0x85#8 } = true := by decide

/-- V48.9: `ORCC #$51`. -/
theorem test_orcc : runs [0x14#8, 0x51#8]
    { base with ccr := 0x80#8 }
    { base with pc := 0x2002#16, ccr := 0x91#8 } = true := by decide


/-! ### Shifts, rotates (V49) -/

/-- V49.1: `ASLA`. -/
theorem test_asla : runs [0x48#8]
    { base with a := 0x81#8, ccr := 0xFC#8 }
    { base with a := 0x02#8, pc := 0x2001#16, ccr := 0xF3#8 } = true := by decide

/-- V49.2: `LSLB`. -/
theorem test_lslb : runs [0x58#8]
    { base with b := 0x40#8, ccr := 0xF5#8 }
    { base with b := 0x80#8, pc := 0x2001#16, ccr := 0xFA#8 } = true := by decide

/-- V49.3: `LSLD`. -/
theorem test_lsld : runs [0x59#8]
    { base with a := 0x40#8, b := 0x00#8, ccr := 0xF5#8 }
    { base with a := 0x80#8, b := 0x00#8, pc := 0x2001#16, ccr := 0xFA#8 } = true := by decide

/-- V49.4: `ASLD`. -/
theorem test_asld : runs [0x59#8]
    { base with a := 0x80#8, b := 0x00#8, ccr := 0xF8#8 }
    { base with a := 0x00#8, b := 0x00#8, pc := 0x2001#16, ccr := 0xF7#8 } = true := by decide

/-- V49.5: `LSL $1001`. -/
theorem test_lsl : runs [0x78#8, 0x10#8, 0x01#8]
    { base with ccr := 0xF6#8, mem := [(0x1001, 0xFF#8)] }
    { base with pc := 0x2003#16, ccr := 0xF9#8, mem := [(0x1001, 0xFE#8)] } = true := by decide

/-- V49.6: `LSRA`. -/
theorem test_lsra : runs [0x44#8]
    { base with a := 0x01#8, ccr := 0xF8#8 }
    { base with a := 0x00#8, pc := 0x2001#16, ccr := 0xF7#8 } = true := by decide

/-- V49.7: `LSRB`. -/
theorem test_lsrb : runs [0x54#8]
    { base with b := 0x80#8, ccr := 0xFF#8 }
    { base with b := 0x40#8, pc := 0x2001#16, ccr := 0xF0#8 } = true := by decide

/-- V49.8: `LSRD`. -/
theorem test_lsrd : runs [0x49#8]
    { base with a := 0x00#8, b := 0x01#8, ccr := 0xF8#8 }
    { base with a := 0x00#8, b := 0x00#8, pc := 0x2001#16, ccr := 0xF7#8 } = true := by decide

/-- V49.9: `LSR $1000`. -/
theorem test_lsr : runs [0x74#8, 0x10#8, 0x00#8]
    { base with ccr := 0xFF#8, mem := [(0x1000, 0xFE#8)] }
    { base with pc := 0x2003#16, ccr := 0xF0#8, mem := [(0x1000, 0x7F#8)] } = true := by decide

/-- V49.10: `ASRA`. -/
theorem test_asra : runs [0x47#8]
    { base with a := 0x81#8, ccr := 0xF6#8 }
    { base with a := 0xC0#8, pc := 0x2001#16, ccr := 0xF9#8 } = true := by decide

/-- V49.11: `ASRB`. -/
theorem test_asrb : runs [0x57#8]
    { base with b := 0x7E#8, ccr := 0xFF#8 }
    { base with b := 0x3F#8, pc := 0x2001#16, ccr := 0xF0#8 } = true := by decide

/-- V49.12: `ASR 0,Y`. -/
theorem test_asr : runs [0x67#8, 0x40#8]
    { base with y := 0x1000#16, ccr := 0xF6#8, mem := [(0x1000, 0xFF#8)] }
    { base with y := 0x1000#16, pc := 0x2002#16, ccr := 0xF9#8, mem := [(0x1000, 0xFF#8)] } = true := by decide

/-- V49.13: `ROLA`. -/
theorem test_rola : runs [0x45#8]
    { base with a := 0x80#8, ccr := 0xFD#8 }
    { base with a := 0x01#8, pc := 0x2001#16, ccr := 0xF3#8 } = true := by decide

/-- V49.14: `ROLB`. -/
theorem test_rolb : runs [0x55#8]
    { base with b := 0x40#8, ccr := 0xF4#8 }
    { base with b := 0x80#8, pc := 0x2001#16, ccr := 0xFA#8 } = true := by decide

/-- V49.15: `ROL $1000`. -/
theorem test_rol : runs [0x75#8, 0x10#8, 0x00#8]
    { base with ccr := 0xFF#8, mem := [] }
    { base with pc := 0x2003#16, ccr := 0xF0#8, mem := [(0x1000, 0x01#8)] } = true := by decide

/-- V49.16: `RORA`. -/
theorem test_rora : runs [0x46#8]
    { base with a := 0x01#8, ccr := 0xF8#8 }
    { base with a := 0x00#8, pc := 0x2001#16, ccr := 0xF7#8 } = true := by decide

/-- V49.17: `RORB`. -/
theorem test_rorb : runs [0x56#8]
    { base with b := 0x00#8, ccr := 0xF5#8 }
    { base with b := 0x80#8, pc := 0x2001#16, ccr := 0xFA#8 } = true := by decide

/-- V49.18: `ROR $1000`. -/
theorem test_ror : runs [0x76#8, 0x10#8, 0x00#8]
    { base with ccr := 0xF7#8, mem := [(0x1000, 0x81#8)] }
    { base with pc := 0x2003#16, ccr := 0xF9#8, mem := [(0x1000, 0xC0#8)] } = true := by decide

/-! ### Five more by hand, from their rules -/

/-- By hand from R124: `STAB $1000`. -/
theorem test_stab : runs [0x7B#8, 0x10#8, 0x00#8]
    { base with b := 0x80#8, ccr := 0xF7#8 }
    { base with b := 0x80#8, ccr := 0xF9#8, pc := 0x2003#16, mem := [(0x1000, 0x80#8)] } = true := by decide

/-- By hand from R128: `STY $10`. -/
theorem test_sty : runs [0x5D#8, 0x10#8]
    { base with y := 0x0102#16, ccr := 0xFF#8 }
    { base with y := 0x0102#16, ccr := 0xF1#8, pc := 0x2002#16,
                mem := [(0x0010, 0x01#8), (0x0011, 0x02#8)] } = true := by decide

/-- By hand from R337: `LSLA`. -/
theorem test_lsla : runs [0x48#8]
    { base with a := 0x40#8, ccr := 0xF5#8 }
    { base with a := 0x80#8, ccr := 0xFA#8, pc := 0x2001#16 } = true := by decide

/-- By hand from R346: `ASLB`. -/
theorem test_aslb : runs [0x58#8]
    { base with b := 0x81#8, ccr := 0xFC#8 }
    { base with b := 0x02#8, ccr := 0xF3#8, pc := 0x2001#16 } = true := by decide

/-- By hand from R344: `ASL $1000`. -/
theorem test_asl : runs [0x78#8, 0x10#8, 0x00#8]
    { base with mem := [(0x1000, 0x80#8)], ccr := 0xF8#8 }
    { base with mem := [], ccr := 0xF7#8, pc := 0x2003#16 } = true := by decide

/-! ### Stops -/

/-- By hand, after V40.24: `LEAY 1,X+`. -/
theorem test_leay_refused : refuses [0x19#8, 0x30#8] base .leaForm = true := by decide

/-- V40.25: `LDX 2,X+`. -/
theorem test_ldx_refused : refuses [0xEE#8, 0x31#8] base .baseIsOperand = true := by decide

/-- R374: an operand byte outside the text comes before one not admitted, and a shut-out operand before both. -/
theorem test_order_of_stops :
    refuses [0xB6#8] { base with launch := { base.launch with codeHi := 0x2001#16, admitted := [⟨0x2000#16, 0x2000#16⟩] } }
      .fetchOutsideCode = true ∧
    refuses [0x1A#8, 0x30#8] { base with launch := { base.launch with admitted := [⟨0x2000#16, 0x2000#16⟩] } }
      .leaForm = true ∧
    refuses [0x18#8, 0x08#8, 0xC0#8, 0x55#8]
      { base with launch := { base.launch with admitted := [⟨0x2000#16, 0x2000#16⟩] } } .moveIndexedForm = true := by
  decide

/-- V40.28: `STAA $2001`. -/
theorem test_staa_refused : refuses [0x7A#8, 0x20#8, 0x01#8] base .writeToCode = true := by decide

/-- V41.21: `EXG A,X`. -/
theorem test_exg_refused : refuses [0xB7#8, 0x85#8] base .mixedSizeExchange = true := by decide

/-- V47.18: `IDIV` by zero. -/
theorem test_idiv_refused :
    refuses [0x18#8, 0x10#8] { base with x := 0x0000#16 } .divideByZero = true := by decide

/-! ## The hypotheses of the statements can be met

One theorem for each statement that has hypotheses. -/

/-- The bytes are the program from PC on, admitted or not. -/
theorem load_text (s : State) (bs : List Byte)
    (h : (List.range bs.length).all (fun k => s.launch.inCode (s.nextPc k) &&
      decide (bs[k]? = some (s.byteAt (s.nextPc k)))) = true) : TextBytes s bs := by
  intro k hk
  have := List.all_eq_true.1 h k (List.mem_range.2 hk)
  simpa using this

/-- Operands at the last address below the memory of `highBase`, and operands whose pointer lies there. -/
theorem unreadable :
    Unreadable8 (.mem (.ext 0x1FFF)) highBase ∧ Unreadable16 (.mem (.ext 0x1FFF)) highBase ∧
    NoAddress (.idx (.indN16 .x 0x0FFF)) highBase ∧ NoAddressXI (.idx (.indN16 .x 0x0FFF)) highBase := by
  refine ⟨fun v t h => ?_, fun v t h => ?_, fun v t h => ?_, fun v t h => ?_⟩
  · have e : fetchSrc8 (.mem (.ext 0x1FFF)) (nextOf (.ldaa (.mem (.ext 0x1FFF))) highBase) highBase =
        .error (.fault .stuck) := rfl
    rw [Reads8, e] at h
    cases h
  · have e : fetchSrc16 (.mem (.ext 0x1FFF)) (nextOf (.ldd (.mem (.ext 0x1FFF))) highBase) highBase =
        .error (.fault .stuck) := rfl
    rw [Reads16, e] at h
    cases h
  · have e : resolveEa (.idx (.indN16 .x 0x0FFF)) (nextOf (.staa (.idx (.indN16 .x 0x0FFF))) highBase) highBase =
        .error (.fault .stuck) := rfl
    rw [EaOf, e] at h
    cases h
  · have e : resolveEaXI (.idx (.indN16 .x 0x0FFF)) (nextOf (.clr (.idx (.indN16 .x 0x0FFF))) highBase) highBase =
        .error (.fault .stuck) := rfl
    rw [EaOfXI, e] at h
    cases h

/-- A byte address not admitted, and one that is the last of the program text. -/
theorem unwritable8 :
    (EaOf (.ext 0x1FFF) highBase 0x1FFF#16 highBase ∧ EaOfXI (.ext 0x1FFF) highBase 0x1FFF#16 highBase ∧
      highBase.launch.admits 0x1FFF#16 = false) ∧
    (EaOf (.ext 0x2FFF) base 0x2FFF#16 base ∧ EaOfXI (.ext 0x2FFF) base 0x2FFF#16 base ∧
      base.launch.admits 0x2FFF#16 = true ∧ base.launch.inCode 0x2FFF#16 = true) :=
  ⟨⟨rfl, rfl, by decide⟩, rfl, rfl, by decide, by decide⟩

/-- A word whose first byte is not admitted, and words whose first or second byte alone is program text. -/
theorem unwritable16 :
    (EaOf (.ext 0x1FFF) highBase 0x1FFF#16 highBase ∧ ¬Readable16 highBase 0x1FFF#16) ∧
    (EaOf (.ext 0x2FFF) base 0x2FFF#16 base ∧ Readable16 base 0x2FFF#16 ∧ base.launch.inCode 0x2FFF#16 = true) ∧
    (EaOf (.ext 0x1FFF) base 0x1FFF#16 base ∧ Readable16 base 0x1FFF#16 ∧
      base.launch.inCode (0x1FFF#16 + 1#16) = true) := by
  unfold Readable16
  exact ⟨⟨rfl, by decide⟩, ⟨rfl, by decide, by decide⟩, rfl, by decide, by decide⟩

/-- The bytes are the program from PC on. -/
theorem load_program (s : State) (bs : List Byte)
    (h : (List.range bs.length).all (fun k => s.launch.inCode (s.nextPc k) && s.launch.admits (s.nextPc k) &&
      decide (bs[k]? = some (s.byteAt (s.nextPc k)))) = true) : ProgramBytes s bs := by
  intro k hk
  have := List.all_eq_true.1 h k (List.mem_range.2 hk)
  simpa [and_assoc] using this

theorem openBase_open : OpenLaunch openBase := by
  refine ⟨fun a => ?_, fun a => ?_, rfl⟩
  · have h : decide (0x0000#16 ≤ a) && decide (a ≤ 0xFFFF#16) = true := by
      have := a.isLt
      simp [BitVec.le_def]
      omega
    simpa [Launch.admits, openBase, base, State.reset, Launch.reset] using h
  · have h : (decide (1#16 ≤ a) && decide (a ≤ 0#16)) = false := by
      simp [BitVec.le_def]
      omega
    exact h

theorem test_witness_DecodeEncodeGivesTheInstruction :
    WellFormed (.movb (.idx (.auto .x true 7)) (.idx (.n5 .sp 16))) = true ∧ WellFormed (.leax (.n9 .pc 256)) = true ∧
    WellFormed (.lds (.imm 0xFFFF)) = true := by decide

theorem test_witness_DecodedBytesAreTheEncoding :
    decode [0xA6#8, 0xE1#8, 0x00#8, 0xA7#8] = .ok (.ldaa (.mem (.idx (.n9 .x 256))), [0xA7#8]) ∧
    decode [0x10#8, 0xFE#8] = .ok (.clc, []) := ⟨rfl, rfl⟩

/-- The first and last postbyte of each kind of row. -/
theorem test_witness_EveryPostbyteHasItsRow :
    (∀ xb ∈ [0x00#8, 0x1F#8, 0xC0#8, 0xDF#8], xb.toNat % 64 < 32 ∧ xb.toNat < 224) ∧
    (∀ xb ∈ [0x20#8, 0x3F#8, 0xA0#8, 0xBF#8], 32 ≤ xb.toNat % 64 ∧ xb.toNat < 192) ∧
    (∀ xb ∈ [0xE0#8, 0xFF#8], 224 ≤ xb.toNat ∧ 32 ≤ xb.toNat % 64) := by decide

theorem test_witness_BytesOfNoRowAreNotInScope :
    (∀ op ∈ [0x20#8, 0x2F#8], op.toNat / 16 = 2) ∧
    (∀ op ∈ [0x18#8, 0x37#8, 0x3A#8, 0xFF#8], 0x18 ≤ op.toNat ∧ op.toNat ≠ 0x38 ∧ op.toNat ≠ 0x39) ∧
    (0x08#8).toNat / 8 % 2 = 1 ∧ (0x03#8).toNat % 8 = 3 ∧ (0x30#8).toNat / 16 % 8 = 3 ∧ (0xB0#8).toNat / 16 % 8 = 3 := by
  decide

theorem test_witness_StepRunsTheDecodedInstruction :
    ∃ (s : State) (bs rest : List Byte) (i : Instr), s.pc ≠ s.launch.endPc ∧ bs.length ≤ 6 ∧ ProgramBytes s bs ∧
      decode bs = .ok (i, rest) ∧ bs.length = 6 ∧ s.launch.inCode (s.nextPc 6) = false :=
  ⟨{ load base [0x18#8, 0x0C#8, 0x10#8, 0x00#8, 0x10#8, 0x01#8] with
      launch := { base.launch with codeHi := 0x2005#16 } },
    [0x18#8, 0x0C#8, 0x10#8, 0x00#8, 0x10#8, 0x01#8], [], .movb (.ext 0x1000) (.ext 0x1001),
    by decide, by decide, load_program _ _ (by decide), rfl, rfl, by decide⟩

/-- Each clause: the end of the run; a byte outside the text; bytes of no row; a move's bad postbyte; a shut-out
operand of another instruction; the last byte of an instruction not admitted. -/
theorem test_witness_StepStopsBeforeExecuting :
    (∃ s : State, s.pc = s.launch.endPc) ∧
    (∃ (s : State) (bs : List Byte), s.pc ≠ s.launch.endPc ∧ bs.length ≤ 6 ∧ TextBytes s bs ∧
      decode bs = .error .truncated ∧ s.launch.inCode (s.nextPc bs.length) = false) ∧
    (∃ (s : State) (bs : List Byte), s.pc ≠ s.launch.endPc ∧ bs.length ≤ 6 ∧ TextBytes s bs ∧
      decode bs = .error .notInScope) ∧
    (∃ (s : State) (bs : List Byte), s.pc ≠ s.launch.endPc ∧ bs.length ≤ 6 ∧ TextBytes s bs ∧
      decode bs = .error .moveIndexedForm) ∧
    (∃ (s : State) (bs : List Byte) (i : Instr), s.pc ≠ s.launch.endPc ∧ bs.length ≤ 6 ∧ TextBytes s bs ∧
      decode bs = .ok (i, []) ∧ WellFormed i = false) ∧
    (∃ (s : State) (bs : List Byte) (i : Instr), s.pc ≠ s.launch.endPc ∧ bs.length ≤ 6 ∧ TextBytes s bs ∧
      decode bs = .ok (i, []) ∧ WellFormed i = true ∧ 1 < byteLength i ∧ s.launch.admits (s.nextPc 1) = false) :=
  ⟨⟨{ base with pc := 0x3000#16 }, by decide⟩,
    ⟨{ load base [0x86#8] with launch := { base.launch with codeHi := 0x2000#16 } }, [0x86#8],
      by decide, by decide, load_text _ _ (by decide), rfl, by decide⟩,
    ⟨load base [0xA7#8], [0xA7#8], by decide, by decide, load_text _ _ (by decide), rfl⟩,
    ⟨load base [0x18#8, 0x08#8, 0xC0#8, 0x55#8], [0x18#8, 0x08#8, 0xC0#8, 0x55#8],
      by decide, by decide, load_text _ _ (by decide), rfl⟩,
    ⟨load base [0xEE#8, 0x31#8], [0xEE#8, 0x31#8], .ldx (.mem (.idx (.auto .x true 1))),
      by decide, by decide, load_text _ _ (by decide), rfl, rfl⟩,
    ⟨{ load base [0x86#8, 0x05#8] with launch := { base.launch with admitted := [⟨0x2000#16, 0x2000#16⟩] } },
      [0x86#8, 0x05#8], .ldaa (.imm 0x05),
      by decide, by decide, load_text _ _ (by decide), rfl, rfl, by decide, by decide⟩⟩

theorem test_witness_StepKeepsMemoryCanonical :
    ∃ s t : State, MemoryCanonical s ∧ step s = .next t ∧ t.mem ≠ s.mem :=
  ⟨load base [0x36#8], { load base [0x36#8] with
      sp := 0x3FFF#16, pc := 0x2001#16, mem := [(0x2000, 0x36#8), (0x3FFF, 0x12#8)] }, rfl, rfl, by decide⟩

/-- A store next to the text: the last address before it and the first after it. -/
theorem test_witness_StepKeepsProgramText :
    ∃ s t : State, step s = .next t ∧ s.launch.inCode 0x2000#16 = true ∧ s.launch.inCode 0x2FFF#16 = true ∧
      t.byteAt 0x3000#16 ≠ s.byteAt 0x3000#16 :=
  ⟨load base [0x7A#8, 0x30#8, 0x00#8], { load base [0x7A#8, 0x30#8, 0x00#8] with
      pc := 0x2003#16, ccr := 0xD0#8, mem := [(0x2000, 0x7A#8), (0x2001, 0x30#8), (0x3000, 0x12#8)] },
    rfl, by decide, by decide, by decide⟩

/-- PC at the top of the address space: it wraps. -/
theorem test_witness_CompletionAdvancesPcByTheLength :
    exec .tab { base with pc := 0xFFFF#16 } =
      .next { base with pc := 0x0001#16, b := 0x12#8, ccr := 0xD0#8 } := rfl

/-- TAP with every bit of A set, X clear. -/
theorem test_witness_StepNeverSetsX :
    ∃ s t : State, s.ccr.getLsbD 6 = false ∧ step s = .next t ∧ t.ccr = 0xBF#8 :=
  ⟨{ load base [0xB7#8, 0x02#8] with a := 0xFF#8, ccr := 0x80#8 },
    { load base [0xB7#8, 0x02#8] with a := 0xFF#8, ccr := 0xBF#8, pc := 0x2002#16 }, by decide, rfl, rfl⟩

/-- A neighbour of the two instructions; PSHCW; PULCW with a mask that keeps bits 0 and 7. -/
theorem test_witness_CcrhBelongsToPshcwAndPulcw :
    (Instr.pshc ≠ .pshcw ∧ Instr.pshc ≠ .pulcw) ∧ (∃ s t, exec .pshcw s = .next t) ∧
    (∃ s t, exec .pulcw s = .next t ∧ s.launch.ccrhMask.getLsbD 0 = false ∧ s.launch.ccrhMask.getLsbD 7 = false) :=
  ⟨by decide, ⟨base, { base with sp := 0x3FFE#16, pc := 0x2002#16, mem := [(0x3FFE, 0x05#8), (0x3FFF, 0xD0#8)] }, rfl⟩,
    ⟨{ base with launch := { base.launch with ccrhMask := 0x7E#8 } },
      { base with launch := { base.launch with ccrhMask := 0x7E#8 }, sp := 0x4002#16, pc := 0x2002#16,
                  ccr := 0x00#8, ccrh := 0x01#8 }, rfl, by decide, by decide⟩⟩

theorem test_witness_NonWritersKeepMemory :
    writesMemory .pula = false ∧ exec .pula base = .next { base with a := 0x00#8, sp := 0x4001#16, pc := 0x2001#16 } :=
  ⟨rfl, rfl⟩

theorem test_witness_CcrKeepersKeepCcr :
    keepsCcr .psha = true ∧ keepsCcr (.exg (.r8 .a) (.r8 .b)) = true ∧
    exec (.exg (.r8 .a) (.r8 .b)) base = .next { base with a := 0x34#8, b := 0x12#8, pc := 0x2002#16 } :=
  ⟨rfl, rfl, rfl⟩

theorem test_witness_EveryWellFormedInstructionCompletes :
    WellFormed (.movw (.idx (.auto .x true 0)) (.idx (.auto .x true 0))) = true ∧ OpenLaunch openBase :=
  ⟨rfl, openBase_open⟩

theorem test_witness_OnlyShutOutOperandsAreRefusedByForm :
    WellFormed (.leay (.indD .y)) = false ∧ WellFormed (.leay (.acc .y .d)) = true := ⟨rfl, rfl⟩

/-- Both indirect modes with the pointer at the top of memory, admitted and not. -/
theorem test_witness_IndirectAddresses :
    (((0xFFFF#16).toNat : Int) = ((baseValue base 0x2004#16 .x).toNat + (0xEFFF#16).toInt) % 65536 ∧
      Readable16 base 0xFFFF#16 ∧ ¬Readable16 highBase 0xFFFF#16) ∧
    ((0x2234#16).toNat = ((baseValue base 0x2002#16 .x).toNat + dNat base) % 65536 ∧ Readable16 base 0x2234#16) ∧
    ((0x1FFF#16).toNat = ((baseValue { highBase with x := 0x0DCB#16 } 0x2002#16 .x).toNat + dNat highBase) % 65536 ∧
      ¬Readable16 highBase 0x1FFF#16) := by
  unfold Readable16
  decide

/-- A word whose second byte is the first admitted one, a word of admitted bytes, and a pointer not admitted. -/
theorem test_witness_OperandFetch :
    resolveEa (.ext 0x1FFF) 0x2003#16 highBase = .ok (0x1FFF#16, highBase) ∧
    highBase.launch.admits 0x1FFF#16 = false ∧ highBase.launch.admits 0x2000#16 = true ∧
    ¬Readable16 highBase 0x1FFF#16 ∧ Readable16 highBase 0x2000#16 ∧
    resolveEa (.idx (.indN16 .x 0x0FFF)) 0x2004#16 highBase = .error (.fault .stuck) := by
  unfold Readable16
  exact ⟨rfl, by decide, by decide, by decide, by decide, rfl⟩

/-- A word that wraps from the last address to the first. -/
theorem test_witness_WordsAreBigEndian : Readable16 base 0xFFFF#16 ∧ Writable16 base 0xFFFF#16 := by
  unfold Readable16 Writable16 Writable
  decide

/-- The addresses on each side of the first admitted byte and of both ends of the program text. -/
theorem test_witness_AccessesAreWhole :
    highBase.launch.admits 0x1FFF#16 = false ∧ highBase.launch.admits 0x2000#16 = true ∧
    ¬Readable16 highBase 0x1FFF#16 ∧ Readable16 base 0x1FFF#16 ∧
    base.launch.inCode 0x1FFF#16 = false ∧ base.launch.inCode 0x2000#16 = true ∧
    base.launch.inCode 0x2FFF#16 = true ∧ base.launch.inCode 0x3000#16 = false := by
  unfold Readable16
  decide

theorem test_witness_ByteLoads :
    Reads8 (.imm 0x80) base 0x80#8 base ∧
    Reads8 (.mem (.idx (.auto .x true 0))) base 0x00#8 { base with x := 0x1001#16 } ∧
    Unreadable8 (.mem (.ext 0x1FFF)) highBase := ⟨rfl, rfl, unreadable.1⟩

theorem test_witness_WordLoads :
    Reads16 (.mem (.idx (.auto .y false 15))) base 0x0000#16 { base with y := 0x17FF#16 } ∧
    Src16.stepsBase .sp (.mem (.idx (.auto .y false 15))) = false ∧
    Src16.stepsBase .x (.mem (.idx (.auto .y false 15))) = false ∧
    Src16.stepsBase .y (.mem (.idx (.auto .x false 15))) = false ∧
    Reads16 (.mem (.idx (.auto .x false 15))) base 0x0000#16 { base with x := 0x0FFF#16 } ∧
    (Unreadable16 (.mem (.ext 0x1FFF)) highBase ∧ Src16.stepsBase .sp (.mem (.ext 0x1FFF)) = false ∧
      Src16.stepsBase .x (.mem (.ext 0x1FFF)) = false ∧ Src16.stepsBase .y (.mem (.ext 0x1FFF)) = false) :=
  ⟨rfl, rfl, rfl, rfl, rfl, unreadable.2.1, rfl, rfl, rfl⟩

theorem test_witness_LoadEffectiveAddresses :
    Idx.leaForm (.n9 .x 256) = true ∧
    resolveIdx (.n9 .x 256) (nextOf (.leax (.n9 .x 256)) base) base = .ok (0x0F00#16, base) := ⟨rfl, rfl⟩

theorem test_witness_ByteStores :
    EaOf (.idx (.auto .x true 0)) base 0x1000#16 { base with x := 0x1001#16 } ∧ Writable base 0x1000#16 ∧
    (EaOf (.ext 0x2FFF) base 0x2FFF#16 base ∧ base.launch.admits 0x2FFF#16 = true ∧
      base.launch.inCode 0x2FFF#16 = true) ∧
    (EaOf (.ext 0x1FFF) highBase 0x1FFF#16 highBase ∧ highBase.launch.admits 0x1FFF#16 = false) ∧
    NoAddress (.idx (.indN16 .x 0x0FFF)) highBase := by
  unfold Writable
  exact ⟨rfl, by decide, ⟨rfl, by decide, by decide⟩, ⟨rfl, by decide⟩, unreadable.2.2.1⟩

theorem test_witness_WordStores :
    EaOf (.ext 0xFFFF) base 0xFFFF#16 base ∧ Writable16 base 0xFFFF#16 ∧ (0x1234#16).toNat = dNat base ∧
    Ea.stepsBase .sp (.ext 0xFFFF) = false ∧ Ea.stepsBase .x (.ext 0xFFFF) = false ∧
    Ea.stepsBase .y (.ext 0xFFFF) = false ∧
    (EaOf (.ext 0x1FFF) highBase 0x1FFF#16 highBase ∧ ¬Readable16 highBase 0x1FFF#16) ∧
    (EaOf (.ext 0x2FFF) base 0x2FFF#16 base ∧ Readable16 base 0x2FFF#16 ∧ base.launch.inCode 0x2FFF#16 = true) ∧
    NoAddress (.idx (.indN16 .x 0x0FFF)) highBase := by
  refine ⟨rfl, ?_, by decide, rfl, rfl, rfl, unwritable16.1, unwritable16.2.1, unreadable.2.2.1⟩
  unfold Writable16 Writable
  decide

theorem test_witness_RegisterTransfers :
    Reg8.a ≠ .ccr ∧ Reg8.b ≠ .ccr ∧ (0x00#8).toNat = (base.get16 .x).toNat % 256 ∧
    (0xFF80#16).toInt = (State.get8 { base with a := 0x80#8 } .a).toInt ∧
    (0x007F#16).toInt = (State.get8 { base with a := 0x7F#8 } .a).toInt := by decide

theorem test_witness_MixedWidthExchange :
    base.launch.refuseUnstated = true ∧ freeBase.launch.refuseUnstated = false := by decide

/-- A byte moved with two steps of X, and a word moved onto itself but for one byte. -/
theorem test_witness_Moves :
    (MovDst.movForm (.idx (.auto .x true 0)) = true ∧ MovSrc8.movForm (.idx (.auto .x true 0)) = true ∧
      fetchMovSrc8 (.idx (.auto .x true 0))
        (nextOf (.movb (.idx (.auto .x true 0)) (.idx (.auto .x true 0))) base) base =
        .ok (0x00#8, { base with x := 0x1001#16 }) ∧
      resolveMovDst (.idx (.auto .x true 0))
        (nextOf (.movb (.idx (.auto .x true 0)) (.idx (.auto .x true 0))) base) { base with x := 0x1001#16 } =
        .ok (0x1001#16, { base with x := 0x1002#16 }) ∧ Writable base 0x1001#16) ∧
    (MovDst.movForm (.ext 0x1001) = true ∧ MovSrc16.movForm (.ext 0x1000) = true ∧
      fetchMovSrc16 (.ext 0x1000) (nextOf (.movw (.ext 0x1000) (.ext 0x1001)) base) base = .ok (0x0000#16, base) ∧
      resolveMovDst (.ext 0x1001) (nextOf (.movw (.ext 0x1000) (.ext 0x1001)) base) base = .ok (0x1001#16, base) ∧
      Writable16 base 0x1001#16) ∧
    (fetchMovSrc8 (.ext 0x1FFF) (nextOf (.movb (.ext 0x1FFF) (.ext 0x3000)) highBase) highBase = .error (.fault .stuck) ∧
      fetchMovSrc16 (.ext 0x1FFF) (nextOf (.movw (.ext 0x1FFF) (.ext 0x3000)) highBase) highBase =
        .error (.fault .stuck)) ∧
    (resolveMovDst (.ext 0x2FFF) (nextOf (.movb (.imm 0) (.ext 0x2FFF)) base) base = .ok (0x2FFF#16, base) ∧
      base.launch.admits 0x2FFF#16 = true ∧ base.launch.inCode 0x2FFF#16 = true) ∧
    (resolveMovDst (.ext 0x1FFF) (nextOf (.movb (.imm 0) (.ext 0x1FFF)) highBase) highBase = .ok (0x1FFF#16, highBase) ∧
      highBase.launch.admits 0x1FFF#16 = false) ∧
    ¬Readable16 highBase 0x1FFF#16 ∧ Readable16 base 0x2FFF#16 := by
  unfold Readable16 Writable16 Writable
  exact ⟨⟨rfl, rfl, rfl, rfl, by decide⟩, ⟨rfl, rfl, rfl, rfl, by decide⟩, ⟨rfl, rfl⟩, ⟨rfl, by decide, by decide⟩,
    ⟨rfl, by decide⟩, by decide, by decide⟩

/-- SP at 0: the push wraps; not admitted below 0x2000; program text at 0x2FFF. -/
theorem test_witness_BytePushes :
    ((0xFFFF#16).toNat = ((0x0000#16).toNat + 65535) % 65536 ∧ Writable { base with sp := 0x0000#16 } 0xFFFF#16) ∧
    ((0x1FFF#16).toNat = ((0x2000#16).toNat + 65535) % 65536 ∧ highBase.launch.admits 0x1FFF#16 = false) ∧
    ((0x2FFF#16).toNat = ((0x3000#16).toNat + 65535) % 65536 ∧ base.launch.admits 0x2FFF#16 = true ∧
      base.launch.inCode 0x2FFF#16 = true) := by
  unfold Writable
  decide

/-- The word wraps at SP = 1; one byte not admitted; one byte program text. -/
theorem test_witness_WordPushes :
    ((0xFFFF#16).toNat = ((0x0001#16).toNat + 65534) % 65536 ∧ (0x1234#16).toNat = dNat base ∧
      (0x05D0#16).toNat = base.ccrh.toNat * 256 + base.ccr.toNat ∧ Writable16 { base with sp := 0x0001#16 } 0xFFFF#16) ∧
    ((0x1FFF#16).toNat = ((0x2001#16).toNat + 65534) % 65536 ∧ ¬Readable16 highBase 0x1FFF#16) ∧
    ((0x1FFF#16).toNat = ((0x2001#16).toNat + 65534) % 65536 ∧ Readable16 base 0x1FFF#16 ∧
      base.launch.inCode (0x1FFF#16 + 1#16) = true) := by
  unfold Readable16 Writable16 Writable
  decide

theorem test_witness_BytePulls :
    base.launch.admits base.sp = true ∧ Launch.admits { highBase with sp := 0x1FFF#16 }.launch 0x1FFF#16 = false := by
  decide

/-- SP at 0xFFFF: the word and SP wrap. -/
theorem test_witness_WordPulls :
    Readable16 { base with sp := 0xFFFF#16 } 0xFFFF#16 ∧ ¬Readable16 { highBase with sp := 0x1FFF#16 } 0x1FFF#16 := by
  unfold Readable16
  decide

theorem test_witness_ByteAdditions :
    Reads8 (.imm 0xFF) { base with ccr := 0x01#8 } 0xFF#8 { base with ccr := 0x01#8 } ∧
    Unreadable8 (.mem (.ext 0x1FFF)) highBase := ⟨rfl, unreadable.1⟩

theorem test_witness_ByteSubtractions :
    Reads8 (.mem (.dir 0xFF)) { base with ccr := 0x01#8 } 0x00#8 { base with ccr := 0x01#8 } ∧
    Unreadable8 (.mem (.ext 0x1FFF)) highBase := ⟨rfl, unreadable.1⟩

theorem test_witness_WordAdditionAndSubtraction :
    (0x1234#16).toNat = dNat base ∧ Reads16 (.imm 0x8000) base 0x8000#16 base ∧
    Unreadable16 (.mem (.ext 0x1FFF)) highBase := ⟨by decide, rfl, unreadable.2.1⟩

/-- The bytes at which V is set: 0x80 down, 0x7F up. -/
theorem test_witness_MemoryIncrementAndDecrement :
    EaOfXI (.ext 0x1000) base 0x1000#16 base ∧ Writable base 0x1000#16 ∧
    (0x7F#8).toNat = ((State.byteAt { base with mem := [(0x1000, 0x80#8)] } 0x1000#16).toNat + 255) % 256 ∧
    (0x80#8).toNat = ((State.byteAt { base with mem := [(0x1000, 0x7F#8)] } 0x1000#16).toNat + 1) % 256 ∧
    (0xFF#8).toNat = ((base.byteAt 0x1000#16).toNat + 255) % 256 ∧
    (0x01#8).toNat = ((base.byteAt 0x1000#16).toNat + 1) % 256 ∧
    (EaOfXI (.ext 0x2FFF) base 0x2FFF#16 base ∧ base.launch.admits 0x2FFF#16 = true ∧
      base.launch.inCode 0x2FFF#16 = true) ∧
    (EaOfXI (.ext 0x1FFF) highBase 0x1FFF#16 highBase ∧ highBase.launch.admits 0x1FFF#16 = false) ∧
    NoAddressXI (.idx (.indN16 .x 0x0FFF)) highBase := by
  unfold Writable
  exact ⟨rfl, by decide, by decide, by decide, by decide, by decide, unwritable8.2.2, ⟨unwritable8.1.2.1, unwritable8.1.2.2⟩, unreadable.2.2.2⟩

theorem test_witness_RegisterIncrementAndDecrement :
    (0x11#8).toNat = (base.a.toNat + 255) % 256 ∧ (0x33#8).toNat = (base.b.toNat + 255) % 256 ∧
    (0x13#8).toNat = (base.a.toNat + 1) % 256 ∧ (0x35#8).toNat = (base.b.toNat + 1) % 256 := by decide

theorem test_witness_Compares :
    Reads8 (.imm 0x12) base 0x12#8 base ∧ (0x1234#16).toNat = dNat base ∧ Reads16 (.imm 0x1234) base 0x1234#16 base ∧
    Src16.stepsBase .x (.imm 0x1234) = false ∧ Src16.stepsBase .y (.imm 0x1234) = false ∧
    Src16.stepsBase .sp (.imm 0x1234) = false ∧ Unreadable8 (.mem (.ext 0x1FFF)) highBase ∧
    (Unreadable16 (.mem (.ext 0x1FFF)) highBase ∧ Src16.stepsBase .sp (.mem (.ext 0x1FFF)) = false ∧
      Src16.stepsBase .x (.mem (.ext 0x1FFF)) = false ∧ Src16.stepsBase .y (.mem (.ext 0x1FFF)) = false) :=
  ⟨rfl, by decide, rfl, rfl, rfl, rfl, unreadable.1, unreadable.2.1, rfl, rfl, rfl⟩

theorem test_witness_Tests :
    EaOfXI (.idx (.n5 .x 31)) base 0x0FFF#16 base ∧ base.launch.admits 0x0FFF#16 = true ∧
    (EaOfXI (.ext 0x1FFF) highBase 0x1FFF#16 highBase ∧ highBase.launch.admits 0x1FFF#16 = false) ∧
    NoAddressXI (.idx (.indN16 .x 0x0FFF)) highBase :=
  ⟨rfl, by decide, ⟨unwritable8.1.2.1, unwritable8.1.2.2⟩, unreadable.2.2.2⟩

theorem test_witness_AccumulatorClearComplementNegate :
    (0xED#8).toNat = 255 - base.a.toNat ∧ (0xCB#8).toNat = 255 - base.b.toNat ∧
    (0xEE#8).toNat = (256 - base.a.toNat) % 256 ∧ (0xCC#8).toNat = (256 - base.b.toNat) % 256 ∧
    (0x80#8).toNat = (256 - (0x80#8).toNat) % 256 ∧ (0x00#8).toNat = (256 - (0x00#8).toNat) % 256 := by decide

theorem test_witness_MemoryClearComplementNegate :
    EaOfXI (.ext 0x1000) base 0x1000#16 base ∧ Writable base 0x1000#16 ∧
    (0xFF#8).toNat = 255 - (base.byteAt 0x1000#16).toNat ∧
    (0x00#8).toNat = (256 - (base.byteAt 0x1000#16).toNat) % 256 ∧
    (EaOfXI (.ext 0x2FFF) base 0x2FFF#16 base ∧ base.launch.admits 0x2FFF#16 = true ∧
      base.launch.inCode 0x2FFF#16 = true) ∧
    (EaOfXI (.ext 0x1FFF) highBase 0x1FFF#16 highBase ∧ highBase.launch.admits 0x1FFF#16 = false) ∧
    NoAddressXI (.idx (.indN16 .x 0x0FFF)) highBase := by
  unfold Writable
  exact ⟨rfl, by decide, by decide, by decide, unwritable8.2.2, ⟨unwritable8.1.2.1, unwritable8.1.2.2⟩, unreadable.2.2.2⟩

theorem test_witness_Multiplications : (0x1234#16).toNat = dNat base := by decide

theorem test_witness_MultiplyAndDivideUseNoMemory :
    ∃ t, exec .mul base = .next t := ⟨{ base with a := 0x03#8, b := 0xA8#8, ccr := 0xD1#8, pc := 0x2001#16 }, rfl⟩

/-- The largest Y below X for EDIV and the largest D below X for FDIV. -/
theorem test_witness_UnsignedDivisions :
    (State.x { base with x := 0x1235#16, y := 0x1234#16 }).toNat ≠ 0 ∧ (0x1234#16).toNat < (0x1235#16).toNat ∧
    dNat base < (0x1235#16).toNat := by decide

/-- The smallest and the largest quotient of EDIVS; the most negative dividend of IDIVS beside its overflow. -/
theorem test_witness_SignedDivisions :
    ((0x0001#16).toInt ≠ 0 ∧ (-32768 : Int) = (0xFFFF#16).toInt * 65536 + (0x8000#16).toNat ∧
      ∃ q : Int, -32768 ≤ q ∧ q ≤ 32767 ∧ (-32768 - q * (0x0001#16).toInt).natAbs < (0x0001#16).toInt.natAbs ∧
        0 ≤ (-32768 - q * (0x0001#16).toInt) * -32768) ∧
    ((0xFFFE#16).toInt ≠ 0 ∧ (-65535 : Int) = (0xFFFF#16).toInt * 65536 + (0x0001#16).toNat ∧
      ∃ q : Int, -32768 ≤ q ∧ q ≤ 32767 ∧ (-65535 - q * (0xFFFE#16).toInt).natAbs < (0xFFFE#16).toInt.natAbs ∧
        0 ≤ (-65535 - q * (0xFFFE#16).toInt) * -65535) ∧
    (0x8000#16).toNat = dNat { base with a := 0x80#8, b := 0x00#8 } ∧
    ¬((0x8000#16).toInt = -32768 ∧ (0xFFFE#16).toInt = -1) ∧ ¬((0x8001#16).toInt = -32768 ∧ (0xFFFF#16).toInt = -1) :=
  ⟨⟨by decide, by decide, -32768, by decide⟩, ⟨by decide, by decide, 32767, by decide⟩, by decide, by decide, by decide⟩

/-- A zero divisor; EDIV with Y = X; FDIV with D = X; IDIVS of -32768 by -1; EDIVS with quotient 32768. -/
theorem test_witness_UnstatedDivisions :
    State.x { base with x := 0x0000#16 } = 0#16 ∧
    (State.x { base with x := 0x1234#16, y := 0x1234#16 }).toNat ≤ (0x1234#16).toNat ∧ (0x1234#16).toNat ≤ dNat base ∧
    dNat { base with a := 0x80#8, b := 0x00#8 } = 32768 ∧ (0xFFFF#16).toNat = 65535 ∧
    (¬∃ q : Int, -32768 ≤ q ∧ q ≤ 32767 ∧
      ((0x0000#16).toInt * 65536 + dNat { base with a := 0x80#8, b := 0x00#8 } - q * (0x0001#16).toInt).natAbs <
        (0x0001#16).toInt.natAbs ∧
      0 ≤ ((0x0000#16).toInt * 65536 + dNat { base with a := 0x80#8, b := 0x00#8 } - q * (0x0001#16).toInt) *
        ((0x0000#16).toInt * 65536 + dNat { base with a := 0x80#8, b := 0x00#8 })) ∧
    base.launch.refuseUnstated = true ∧ freeBase.launch.refuseUnstated = false := by
  refine ⟨by decide, by decide, by decide, by decide, by decide, ?_, by decide, by decide⟩
  have h0 : (0x0000#16).toInt = 0 := by decide
  have h1 : (0x0001#16).toInt = 1 := by decide
  have h2 : dNat { base with a := 0x80#8, b := 0x00#8 } = 32768 := by decide
  rw [h0, h1, h2]
  omega

theorem test_witness_LogicOnAccumulators :
    Reads8 (.imm 0x2F) { base with a := 0x1C#8 } 0x2F#8 { base with a := 0x1C#8 } ∧
    (∀ k, k < 8 → (0x0C#8).getLsbD k = ((0x1C#8).getLsbD k && (0x2F#8).getLsbD k)) ∧
    (∀ k, k < 8 → (0x33#8).getLsbD k = ((0x1C#8).getLsbD k != (0x2F#8).getLsbD k)) ∧
    (∀ k, k < 8 → (0x3F#8).getLsbD k = ((0x1C#8).getLsbD k || (0x2F#8).getLsbD k)) ∧
    Unreadable8 (.mem (.ext 0x1FFF)) highBase :=
  ⟨rfl, by decide, by decide, by decide, unreadable.1⟩

/-- A result of each shift of 0x81, with carry in. -/
theorem test_witness_AccumulatorShifts :
    (0x02#8).toNat = 2 * (0x81#8).toNat % 256 ∧ (0x40#8).toNat = (0x81#8).toNat / 2 + 0 ∧
    (0xC0#8).toNat = (0x81#8).toNat / 2 + 128 * carry { base with ccr := 0x01#8 } ∧
    (0xC0#8).toNat = (0x81#8).toNat / 2 + (if 128 ≤ (0x81#8).toNat then 128 else 0) ∧
    (0x03#8).toNat = (2 * (0x81#8).toNat + carry { base with ccr := 0x01#8 }) % 256 := by decide

theorem test_witness_DoubleShifts :
    (0x24#8).toNat * 256 + (0x68#8).toNat = 2 * dNat base % 65536 ∧
    (0x09#8).toNat * 256 + (0x1A#8).toNat = dNat base / 2 := by decide

theorem test_witness_MemoryShifts :
    EaOfXI (.ext 0x1000) base 0x1000#16 base ∧ Writable base 0x1000#16 ∧ 0 = (base.byteAt 0x1000#16).toNat ∧
    (0x00#8).toNat = 2 * 0 % 256 ∧ (0x00#8).toNat = 0 / 2 ∧ (0x00#8).toNat = 0 / 2 + (if 128 ≤ 0 then 128 else 0) ∧
    (0x01#8).toNat = (2 * 0 + carry { base with ccr := 0x01#8 }) % 256 ∧
    (0x80#8).toNat = 0 / 2 + 128 * carry { base with ccr := 0x01#8 } ∧
    (EaOfXI (.ext 0x2FFF) base 0x2FFF#16 base ∧ base.launch.admits 0x2FFF#16 = true ∧
      base.launch.inCode 0x2FFF#16 = true) ∧
    (EaOfXI (.ext 0x1FFF) highBase 0x1FFF#16 highBase ∧ highBase.launch.admits 0x1FFF#16 = false) ∧
    NoAddressXI (.idx (.indN16 .x 0x0FFF)) highBase := by
  unfold Writable
  exact ⟨rfl, by decide, by decide, by decide, by decide, by decide, by decide, by decide, unwritable8.2.2, ⟨unwritable8.1.2.1, unwritable8.1.2.2⟩, unreadable.2.2.2⟩

end Sys2Proof.Tests
end

section
/-! SUPPORT. What an instruction can do, said once: the instructions fall into a few shapes, and a shape's body
is register updates and writes of writable bytes. `exec_meaning` is the one case split over the instructions; what
every completing instruction keeps (the program text, the parameters, canonical memory, a clear X; memory or CCR for
the instructions of `writesMemory` and `keepsCcr` that leave them) is read off its effect. -/

namespace Sys2Proof.Machine

open Sys2Proof.Safety

/-! ## Updates -/

/-- `t` is `s` with registers changed, and X not set (R30); under `keeps` CCR is as it was. -/
structure RegisterUpdate (keeps : Bool) (s t : State) : Prop where
  mem : t.mem = s.mem
  launch : t.launch = s.launch
  xClear : s.ccr.getLsbD 6 = false → t.ccr.getLsbD 6 = false
  ccr : keeps = true → t.ccr = s.ccr

namespace RegisterUpdate

variable {keeps : Bool} {s t : State}

theorem of_eq (hm : t.mem = s.mem := by rfl) (hl : t.launch = s.launch := by rfl) (hc : t.ccr = s.ccr := by rfl) :
    RegisterUpdate keeps s t :=
  ⟨hm, hl, fun h => hc ▸ h, fun _ => hc⟩

theorem of_same (h : SameButIndex s t) : RegisterUpdate keeps s t := of_eq h.mem h.launch h.ccr

theorem trans {u : State} (h : RegisterUpdate keeps s t) (h' : RegisterUpdate keeps t u) : RegisterUpdate keeps s u :=
  ⟨h'.mem.trans h.mem, h'.launch.trans h.launch, h'.xClear ∘ h.xClear, fun hk => (h'.ccr hk).trans (h.ccr hk)⟩

theorem setFlags {u : FlagUpdate} (h : RegisterUpdate keeps s t) (hk : keeps = false) :
    RegisterUpdate keeps s (t.setFlags u) where
  mem := h.mem
  launch := h.launch
  xClear := fun hx => (applyFlags_row t.ccr u).2.1.trans (h.xClear hx)
  ccr := fun hk' => absurd (hk.symm.trans hk') Bool.false_ne_true

theorem writeCcr {v : Byte} (h : RegisterUpdate keeps s t) (hk : keeps = false) :
    RegisterUpdate keeps s (t.writeCcr v) where
  mem := h.mem
  launch := h.launch
  xClear := fun hx => by
    rw [State.writeCcr_ccr, writtenCcr_loaded t.ccr v 6 (by decide), if_pos rfl, h.xClear hx, Bool.false_and]
  ccr := fun hk' => absurd (hk.symm.trans hk') Bool.false_ne_true

theorem andCcr {v : Byte} (hk : keeps = false) : RegisterUpdate keeps s { s with ccr := s.ccr &&& v } where
  mem := rfl
  launch := rfl
  xClear := fun hx => by rw [BitVec.getLsbD_and, hx, Bool.false_and]
  ccr := fun hk' => absurd (hk.symm.trans hk') Bool.false_ne_true

theorem set16 {q : Reg16} {v : Word} (h : RegisterUpdate keeps s t) : RegisterUpdate keeps s (t.set16 q v) := by
  cases q <;> exact h.trans of_eq

theorem set8 {q : Reg8} {v : Byte} (h : RegisterUpdate keeps s t) (hk : q = .ccr → keeps = false) :
    RegisterUpdate keeps s (t.set8 q v) := by
  cases q with
  | a => exact h.trans of_eq
  | b => exact h.trans of_eq
  | ccr => exact h.writeCcr (hk rfl)

theorem setQuotient {dst : QuotientReg} {v : Word} (h : RegisterUpdate keeps s t) :
    RegisterUpdate keeps s (t.setQuotient dst v) := by
  cases dst <;> exact h.trans of_eq

theorem openLaunch (h : RegisterUpdate keeps s t) (ho : OpenLaunch s) : OpenLaunch t := by
  unfold OpenLaunch
  rwa [h.launch]

end RegisterUpdate

/-- What a completing instruction leaves: register updates and, under `writes`, writes of writable bytes. -/
inductive Effect (writes keeps : Bool) (s : State) : State → Prop where
  | refl : Effect writes keeps s s
  | registers {t u : State} : Effect writes keeps s t → RegisterUpdate keeps t u → Effect writes keeps s u
  | store {t : State} (a : Word) (v : Byte) :
      Effect writes keeps s t → writes = true → Writable t a → Effect writes keeps s (t.putByte a v)

theorem Effect.trans {writes keeps : Bool} {s t u : State} (h : Effect writes keeps s t)
    (h' : Effect writes keeps t u) : Effect writes keeps s u := by
  induction h' with
  | refl => exact h
  | registers _ hr ih => exact ih.registers hr
  | store a v _ hw ha ih => exact ih.store a v hw ha

theorem Effect.launch {writes keeps : Bool} {s t : State} (h : Effect writes keeps s t) : t.launch = s.launch := by
  induction h with
  | refl => rfl
  | registers _ hr ih => exact hr.launch.trans ih
  | store _ _ _ _ _ ih => exact ih

/-- The text is not writable, so no effect reaches a byte of it (R63). -/
theorem Effect.byteAt_of_inCode {writes keeps : Bool} {s t : State} (h : Effect writes keeps s t) {a : Word}
    (ha : s.launch.inCode a = true) : t.byteAt a = s.byteAt a := by
  induction h with
  | refl => rfl
  | registers _ hr ih => rw [← ih, State.byteAt, hr.mem, State.byteAt]
  | @store t b v ht _ hb ih =>
    have hne : a ≠ b := by
      rintro rfl
      exact absurd (hb.2.symm.trans (ht.launch ▸ ha)) Bool.false_ne_true
    rw [State.putByte_byteAt, if_neg hne, ih]

theorem Effect.wf {writes keeps : Bool} {s t : State} (h : Effect writes keeps s t) (hs : Memory.wf s.mem = true) :
    Memory.wf t.mem = true := by
  induction h with
  | refl => exact hs
  | registers _ hr ih => exact hr.mem ▸ ih
  | @store t a v _ _ _ ih => exact State.putByte_wf t a v ih

theorem Effect.mem {keeps : Bool} {s t : State} (h : Effect false keeps s t) : t.mem = s.mem := by
  induction h with
  | refl => rfl
  | registers _ hr ih => exact hr.mem.trans ih
  | store _ _ _ hw => cases hw

theorem Effect.ccr {writes : Bool} {s t : State} (h : Effect writes true s t) : t.ccr = s.ccr := by
  induction h with
  | refl => rfl
  | registers _ hr ih => exact (hr.ccr rfl).trans ih
  | store _ _ _ _ _ ih => exact ih

theorem Effect.xClear {writes keeps : Bool} {s t : State} (h : Effect writes keeps s t) (hx : s.ccr.getLsbD 6 = false) :
    t.ccr.getLsbD 6 = false := by
  induction h with
  | refl => exact hx
  | registers _ hr ih => exact hr.xClear ih
  | store _ _ _ _ _ ih => exact ih

/-! ## Bodies -/

/-- A body of an instruction: where it answers, by such an effect; with every access allowed it answers. -/
structure Body (writes keeps : Bool) (s : State) (r : Except Stop State) : Prop where
  effect : ∀ t, r = .ok t → Effect writes keeps s t
  total : OpenLaunch s → ∃ t, r = .ok t

/-- An operand's value or address: it changes index registers alone, and with every access allowed it is there. -/
structure Operand {α : Type} (s : State) (r : Except Stop (α × State)) : Prop where
  same : ∀ v s1, r = .ok (v, s1) → SameButIndex s s1
  total : OpenLaunch s → ∃ p, r = .ok p

namespace Body

variable {writes keeps : Bool} {s s1 : State} {r : Except Stop State}

theorem ok {t : State} (h : RegisterUpdate keeps s t) : Body writes keeps s (.ok t) where
  effect := fun u hu => by
    cases hu
    exact .registers .refl h
  total := fun _ => ⟨t, rfl⟩

theorem after (h : RegisterUpdate keeps s s1) (hr : Body writes keeps s1 r) : Body writes keeps s r where
  effect := fun t ht => (Effect.refl.registers h).trans (hr.effect t ht)
  total := fun ho => hr.total (h.openLaunch ho)

theorem bind {f : State → State} (hr : Body writes keeps s r) (hf : ∀ t, RegisterUpdate keeps t (f t)) :
    Body writes keeps s (r >>= fun t => .ok (f t)) where
  effect := fun u hu => by
    cases r with
    | error e => cases hu
    | ok t =>
      cases hu
      exact (hr.effect t rfl).registers (hf t)
  total := fun ho => by
    obtain ⟨t, rfl⟩ := hr.total ho
    exact ⟨f t, rfl⟩

theorem operand {α : Type} {r : Except Stop (α × State)} {f : α × State → Except Stop State} (hr : Operand s r)
    (hf : ∀ p, Body writes keeps p.2 (f p)) : Body writes keeps s (r >>= f) where
  effect := fun u hu => by
    cases r with
    | error e => cases hu
    | ok p => exact (after (.of_same (hr.same p.1 p.2 rfl)) (hf p)).effect u hu
  total := fun ho => by
    obtain ⟨p, rfl⟩ := hr.total ho
    exact (after (.of_same (hr.same p.1 p.2 rfl)) (hf p)).total ho

theorem read {α : Type} {r : Except Stop α} {f : α → Except Stop State} (hr : OpenLaunch s → ∃ v, r = .ok v)
    (hf : ∀ v, Body writes keeps s (f v)) : Body writes keeps s (r >>= f) where
  effect := fun u hu => by
    cases r with
    | error e => cases hu
    | ok v => exact (hf v).effect u hu
  total := fun ho => by
    obtain ⟨v, rfl⟩ := hr ho
    exact (hf v).total ho

theorem writeByte {a : Word} {v : Byte} (hw : writes = true) : Body writes keeps s (writeByte s a v) where
  effect := fun t ht => by
    obtain ⟨hadm, hcode, rfl⟩ := (writeByte_eq_ok_iff s a v t).1 ht
    exact .store a v .refl hw ⟨hadm, hcode⟩
  total := fun ho => ⟨_, (writeByte_eq_ok_iff s a v _).2 ⟨ho.1 a, ho.2.1 a, rfl⟩⟩

theorem writeWord {a v : Word} (hw : writes = true) : Body writes keeps s (writeWord s a v) where
  effect := fun t ht => by
    obtain ⟨⟨hadm, hadm'⟩, ⟨hcode, hcode'⟩, rfl⟩ := (writeWord_eq_ok_iff s a v t).1 ht
    exact .store _ _ (.store a _ .refl hw ⟨hadm, hcode⟩) hw ⟨hadm', hcode'⟩
  total := fun ho =>
    ⟨_, (writeWord_eq_ok_iff s a v _).2 ⟨⟨ho.1 _, ho.1 _⟩, ⟨ho.2.1 _, ho.2.1 _⟩, rfl⟩⟩

end Body

/-! ## Operands -/

theorem readByte_total {s : State} (ho : OpenLaunch s) (a : Word) : ∃ v, readByte s a = .ok v :=
  ⟨_, (readByte_eq_ok_iff s a _).2 ⟨ho.1 a, rfl⟩⟩

theorem readWord_total {s : State} (ho : OpenLaunch s) (a : Word) : ∃ v, readWord s a = .ok v :=
  ⟨_, (readWord_eq_ok_iff s a _).2 ⟨⟨ho.1 _, ho.1 _⟩, rfl⟩⟩

theorem resolveIdx_operand (i : Idx) (next : Word) (s : State) : Operand s (resolveIdx i next s) where
  same := fun _ _ h => resolveIdx_same h
  total := fun ho => by
    cases i with
    | indN16 r n =>
      obtain ⟨v, hv⟩ := readWord_total ho (s.base next r + n)
      exact ⟨(v, s), by simp only [resolveIdx, hv]⟩
    | indD r =>
      obtain ⟨v, hv⟩ := readWord_total ho (s.base next r + s.d)
      exact ⟨(v, s), by simp only [resolveIdx, hv]⟩
    | _ => exact ⟨_, rfl⟩

theorem resolveEa_operand (ea : Ea) (next : Word) (s : State) : Operand s (resolveEa ea next s) where
  same := fun _ _ h => resolveEa_same h
  total := fun ho => by
    cases ea with
    | idx i => exact (resolveIdx_operand i next s).total ho
    | _ => exact ⟨_, rfl⟩

theorem resolveEaXI_operand (ea : EaXI) (next : Word) (s : State) : Operand s (resolveEaXI ea next s) where
  same := fun _ _ h => resolveEaXI_same h
  total := fun ho => by
    cases ea with
    | idx i => exact (resolveIdx_operand i next s).total ho
    | _ => exact ⟨_, rfl⟩

theorem resolveMovDst_operand (dst : MovDst) (next : Word) (s : State) : Operand s (resolveMovDst dst next s) where
  same := fun _ _ h => resolveMovDst_same h
  total := fun ho => by
    cases dst with
    | idx i => exact (resolveIdx_operand i next s).total ho
    | _ => exact ⟨_, rfl⟩

theorem fetchSrc8_operand (op : Src8) (next : Word) (s : State) : Operand s (fetchSrc8 op next s) where
  same := fun _ _ h => fetchSrc8_same h
  total := fun ho => by
    cases op with
    | imm v => exact ⟨_, rfl⟩
    | mem ea =>
      obtain ⟨p, hp⟩ := (resolveEa_operand ea next s).total ho
      have ho' := (RegisterUpdate.of_same (keeps := true) (resolveEa_same hp)).openLaunch ho
      obtain ⟨v, hv⟩ := readByte_total ho' p.1
      exact ⟨(v, p.2), by simp only [fetchSrc8, hp, hv]⟩

theorem fetchSrc16_operand (op : Src16) (next : Word) (s : State) : Operand s (fetchSrc16 op next s) where
  same := fun _ _ h => fetchSrc16_same h
  total := fun ho => by
    cases op with
    | imm v => exact ⟨_, rfl⟩
    | mem ea =>
      obtain ⟨p, hp⟩ := (resolveEa_operand ea next s).total ho
      have ho' := (RegisterUpdate.of_same (keeps := true) (resolveEa_same hp)).openLaunch ho
      obtain ⟨v, hv⟩ := readWord_total ho' p.1
      exact ⟨(v, p.2), by simp only [fetchSrc16, hp, hv]⟩

theorem fetchMovSrc8_operand (src : MovSrc8) (next : Word) (s : State) : Operand s (fetchMovSrc8 src next s) := by
  cases src with
  | imm v => exact fetchSrc8_operand (.imm v) next s
  | ext a => exact fetchSrc8_operand (.mem (.ext a)) next s
  | idx i => exact fetchSrc8_operand (.mem (.idx i)) next s

theorem fetchMovSrc16_operand (src : MovSrc16) (next : Word) (s : State) :
    Operand s (fetchMovSrc16 src next s) := by
  cases src with
  | imm v => exact fetchSrc16_operand (.imm v) next s
  | ext a => exact fetchSrc16_operand (.mem (.ext a)) next s
  | idx i => exact fetchSrc16_operand (.mem (.idx i)) next s

/-! ## The shapes of instruction as sequences of operations -/

theorem ok_bind {α β : Type} (v : α) (f : α → Except Stop β) : (Except.ok v >>= f) = f v := rfl

theorem withSrc8_eq (op : Src8) (s : State) (f : Byte → State → State) :
    withSrc8 op s f = complete (s.nextPc (1 + src8Size op))
      (fetchSrc8 op (s.nextPc (1 + src8Size op)) s >>= fun p => .ok (f p.1 p.2)) := by
  simp only [withSrc8]
  cases fetchSrc8 op (s.nextPc (1 + src8Size op)) s <;> rfl

theorem withSrc16_eq (op : Src16) (s : State) (f : Word → State → State) :
    withSrc16 op s f = complete (s.nextPc (1 + src16Size op))
      (fetchSrc16 op (s.nextPc (1 + src16Size op)) s >>= fun p => .ok (f p.1 p.2)) := by
  simp only [withSrc16]
  cases fetchSrc16 op (s.nextPc (1 + src16Size op)) s <;> rfl

theorem storeByte_eq (ea : Ea) (v : Byte) (s : State) :
    storeByte ea v s = complete (s.nextPc (1 + eaSize ea))
      (resolveEa ea (s.nextPc (1 + eaSize ea)) s >>= fun p =>
        writeByte p.2 p.1 v >>= fun t => .ok (t.setFlags (nzUpdate v))) := by
  simp only [storeByte]
  cases resolveEa ea (s.nextPc (1 + eaSize ea)) s with
  | error e => rfl
  | ok p => rw [ok_bind]; cases h : writeByte p.2 p.1 v <;> simp only [h] <;> rfl

theorem storeWord_eq (ea : Ea) (v : Word) (s : State) :
    storeWord ea v s = complete (s.nextPc (1 + eaSize ea))
      (resolveEa ea (s.nextPc (1 + eaSize ea)) s >>= fun p =>
        writeWord p.2 p.1 v >>= fun t => .ok (t.setFlags (nzUpdate v))) := by
  simp only [storeWord]
  cases resolveEa ea (s.nextPc (1 + eaSize ea)) s with
  | error e => rfl
  | ok p => rw [ok_bind]; cases h : writeWord p.2 p.1 v <;> simp only [h] <;> rfl

theorem writeByteXI_eq (ea : EaXI) (v : Byte) (u : FlagUpdate) (s : State) :
    writeByteXI ea v u s = complete (s.nextPc (1 + eaXISize ea))
      (resolveEaXI ea (s.nextPc (1 + eaXISize ea)) s >>= fun p =>
        writeByte p.2 p.1 v >>= fun t => .ok (t.setFlags u)) := by
  simp only [writeByteXI]
  cases resolveEaXI ea (s.nextPc (1 + eaXISize ea)) s with
  | error e => rfl
  | ok p => rw [ok_bind]; cases h : writeByte p.2 p.1 v <;> simp only [h] <;> rfl

theorem testByteXI_eq (ea : EaXI) (f : Byte → FlagUpdate) (s : State) :
    testByteXI ea f s = complete (s.nextPc (1 + eaXISize ea))
      (resolveEaXI ea (s.nextPc (1 + eaXISize ea)) s >>= fun p =>
        readByte p.2 p.1 >>= fun m => .ok (p.2.setFlags (f m))) := by
  simp only [testByteXI]
  cases resolveEaXI ea (s.nextPc (1 + eaXISize ea)) s with
  | error e => rfl
  | ok p => rw [ok_bind]; cases h : readByte p.2 p.1 <;> simp only [h] <;> rfl

theorem modifyByte_eq (ea : EaXI) (f : Byte → Byte × FlagUpdate) (s : State) :
    modifyByte ea f s = complete (s.nextPc (1 + eaXISize ea))
      (resolveEaXI ea (s.nextPc (1 + eaXISize ea)) s >>= fun p =>
        readByte p.2 p.1 >>= fun m =>
          writeByte p.2 p.1 (f m).1 >>= fun t => .ok (t.setFlags (f m).2)) := by
  simp only [modifyByte]
  cases resolveEaXI ea (s.nextPc (1 + eaXISize ea)) s with
  | error e => rfl
  | ok p =>
    rw [ok_bind]
    cases h : readByte p.2 p.1 with
    | error e => simp only [h]; rfl
    | ok m => rw [ok_bind]; cases h' : writeByte p.2 p.1 (f m).1 <;> simp only [h, h'] <;> rfl

theorem opcode_encodeIdx_length (op : Byte) (i : Idx) : (op :: encodeIdx i).length = 1 + idxSize i := by
  rw [List.length_cons, encodeIdx_length, Nat.add_comm]

theorem loadAddress_eq (i : Idx) (s : State) (f : Word → State → State) :
    loadAddress i s f = if i.leaForm then complete (s.nextPc (1 + idxSize i))
      (resolveIdx i (s.nextPc (1 + idxSize i)) s >>= fun p => .ok (f p.1 p.2)) else .refused .leaForm := by
  simp only [loadAddress]
  cases resolveIdx i (s.nextPc (1 + idxSize i)) s <;> rfl

theorem pullByte_eq (s : State) (f : Byte → State → State) :
    pullByte s f = readByte s s.sp >>= fun v => .ok (f v (s.setSp (s.sp + 1#16))) := by
  unfold pullByte
  cases readByte s s.sp <;> rfl

theorem pullWord_eq (s : State) (f : Word → State → State) :
    pullWord s f = readWord s s.sp >>= fun v => .ok (f v (s.setSp (s.sp + 2#16))) := by
  unfold pullWord
  cases readWord s s.sp <;> rfl

theorem execMovb_eq (src : MovSrc8) (dst : MovDst) (s : State) :
    execMovb src dst s = if src.movForm && dst.movForm then
      complete (s.nextPc (2 + movSrc8Size src + movDstSize dst))
        (fetchMovSrc8 src (s.nextPc (2 + movSrc8Size src + movDstSize dst)) s >>= fun p =>
          resolveMovDst dst (s.nextPc (2 + movSrc8Size src + movDstSize dst)) p.2 >>= fun q =>
            writeByte q.2 q.1 p.1)
      else .refused .moveIndexedForm := by
  simp only [execMovb]
  cases fetchMovSrc8 src (s.nextPc (2 + movSrc8Size src + movDstSize dst)) s with
  | error e => rfl
  | ok p =>
    rw [ok_bind]
    cases h : resolveMovDst dst (s.nextPc (2 + movSrc8Size src + movDstSize dst)) p.2 <;> simp only [h] <;> rfl

theorem execMovw_eq (src : MovSrc16) (dst : MovDst) (s : State) :
    execMovw src dst s = if src.movForm && dst.movForm then
      complete (s.nextPc (2 + movSrc16Size src + movDstSize dst))
        (fetchMovSrc16 src (s.nextPc (2 + movSrc16Size src + movDstSize dst)) s >>= fun p =>
          resolveMovDst dst (s.nextPc (2 + movSrc16Size src + movDstSize dst)) p.2 >>= fun q =>
            writeWord q.2 q.1 p.1)
      else .refused .moveIndexedForm := by
  simp only [execMovw]
  cases fetchMovSrc16 src (s.nextPc (2 + movSrc16Size src + movDstSize dst)) s with
  | error e => rfl
  | ok p =>
    rw [ok_bind]
    cases h : resolveMovDst dst (s.nextPc (2 + movSrc16Size src + movDstSize dst)) p.2 <;> simp only [h] <;> rfl

/-! ## Meanings -/

/-- The outcomes an instruction's meaning can have: a body completed at `next`; such an outcome under the refusal
of unstated operand values (R145, R296); a refusal by its operand pattern (R95, R96, R97). -/
inductive Meaning (i : Instr) (s : State) : Host.Outcome State Fault Refusal → Prop where
  | completes (r : Except Stop State) :
      Body (writesMemory i) (keepsCcr i) s r → Meaning i s (complete (nextOf i s) r)
  | unstated (name : Refusal) (o : Host.Outcome State Fault Refusal) :
      Meaning i s o → Meaning i s (whereUnstated name s o)
  | refused (name : Refusal) : WellFormed i = false → Meaning i s (.refused name)

namespace Meaning

variable {i : Instr} {s : State}

theorem effect {o : Host.Outcome State Fault Refusal} {t : State} (h : Meaning i s o) (ho : o = .next t) :
    ∃ u, Effect (writesMemory i) (keepsCcr i) s u ∧ t = { u with pc := nextOf i s } := by
  induction h with
  | completes r hr =>
    obtain ⟨u, hu, rfl⟩ := (complete_eq_next_iff _ r t).1 ho
    exact ⟨u, hr.effect u hu, rfl⟩
  | unstated name o _ ih => exact ih ((whereUnstated_eq_next_iff name s o t).1 ho).2
  | refused name _ => cases ho

theorem total {o : Host.Outcome State Fault Refusal} (h : Meaning i s o) (hw : WellFormed i = true)
    (ho : OpenLaunch s) : ∃ t, o = .next t := by
  induction h with
  | completes r hr =>
    obtain ⟨u, rfl⟩ := hr.total ho
    exact ⟨_, rfl⟩
  | unstated name o _ ih =>
    obtain ⟨t, ht⟩ := ih
    exact ⟨t, (whereUnstated_eq_next_iff name s o t).2 ⟨ho.2.2, ht⟩⟩
  | refused name hf => exact absurd (hf.symm.trans hw) Bool.false_ne_true

theorem complete {n : Nat} {r : Except Stop State} (hl : byteLength i = n)
    (hr : Body (writesMemory i) (keepsCcr i) s r) : Meaning i s (complete (s.nextPc n) r) :=
  hl ▸ .completes r hr

theorem refusedUnless {c : Bool} {o : Host.Outcome State Fault Refusal} {name : Refusal}
    (hc : c = false → WellFormed i = false) (ho : Meaning i s o) : Meaning i s (if c then o else .refused name) := by
  cases c with
  | true => exact ho
  | false => exact .refused name (hc rfl)

theorem refusedIf {c : Bool} {o : Host.Outcome State Fault Refusal} {name : Refusal}
    (hc : WellFormed i = !c) (ho : Meaning i s o) : Meaning i s (if c then .refused name else o) := by
  cases c with
  | true => exact .refused name hc
  | false => exact ho

theorem finish {n : Nat} {t : State} (hl : byteLength i = n) (h : RegisterUpdate (keepsCcr i) s t) :
    Meaning i s (finish n s t) :=
  .complete hl (.ok h)

theorem withSrc8 {op : Src8} {f : Byte → State → State} (hl : byteLength i = 1 + src8Size op)
    (hf : ∀ v t, RegisterUpdate (keepsCcr i) t (f v t)) : Meaning i s (withSrc8 op s f) := by
  rw [withSrc8_eq]
  exact .complete hl (.operand (fetchSrc8_operand op _ s) fun p => .ok (hf p.1 p.2))

theorem withSrc16 {op : Src16} {f : Word → State → State} (hl : byteLength i = 1 + src16Size op)
    (hf : ∀ v t, RegisterUpdate (keepsCcr i) t (f v t)) : Meaning i s (withSrc16 op s f) := by
  rw [withSrc16_eq]
  exact .complete hl (.operand (fetchSrc16_operand op _ s) fun p => .ok (hf p.1 p.2))

theorem storeByte {ea : Ea} {v : Byte} (hl : byteLength i = 1 + eaSize ea) (hw : writesMemory i = true)
    (hk : keepsCcr i = false) : Meaning i s (storeByte ea v s) := by
  rw [storeByte_eq]
  exact .complete hl (.operand (resolveEa_operand ea _ s) fun p => .bind (.writeByte hw) fun t => .setFlags .of_eq hk)

theorem storeWord {ea : Ea} {v : Word} (hl : byteLength i = 1 + eaSize ea) (hw : writesMemory i = true)
    (hk : keepsCcr i = false) : Meaning i s (storeWord ea v s) := by
  rw [storeWord_eq]
  exact .complete hl (.operand (resolveEa_operand ea _ s) fun p => .bind (.writeWord hw) fun t => .setFlags .of_eq hk)

theorem writeByteXI {ea : EaXI} {v : Byte} {u : FlagUpdate} (hl : byteLength i = 1 + eaXISize ea)
    (hw : writesMemory i = true) (hk : keepsCcr i = false) : Meaning i s (writeByteXI ea v u s) := by
  rw [writeByteXI_eq]
  exact .complete hl (.operand (resolveEaXI_operand ea _ s) fun p => .bind (.writeByte hw) fun t => .setFlags .of_eq hk)

theorem testByteXI {ea : EaXI} {f : Byte → FlagUpdate} (hl : byteLength i = 1 + eaXISize ea)
    (hk : keepsCcr i = false) : Meaning i s (testByteXI ea f s) := by
  rw [testByteXI_eq]
  exact .complete hl (.operand (resolveEaXI_operand ea _ s) fun p =>
    .read (fun ho => readByte_total ho _) fun m => .ok (.setFlags .of_eq hk))

theorem modifyByte {ea : EaXI} {f : Byte → Byte × FlagUpdate} (hl : byteLength i = 1 + eaXISize ea)
    (hw : writesMemory i = true) (hk : keepsCcr i = false) : Meaning i s (modifyByte ea f s) := by
  rw [modifyByte_eq]
  exact .complete hl (.operand (resolveEaXI_operand ea _ s) fun p =>
    .read (fun ho => readByte_total ho _) fun m => .bind (.writeByte hw) fun t => .setFlags .of_eq hk)

theorem loadAddress {x : Idx} {f : Word → State → State} (hl : byteLength i = 1 + idxSize x)
    (hw : WellFormed i = x.leaForm) (hf : ∀ v t, RegisterUpdate (keepsCcr i) t (f v t)) :
    Meaning i s (loadAddress x s f) := by
  rw [loadAddress_eq]
  exact .refusedUnless hw.trans (.complete hl (.operand (resolveIdx_operand x _ s) fun p => .ok (hf p.1 p.2)))

theorem pushByte {n : Nat} {v : Byte} (hl : byteLength i = n) (hw : writesMemory i = true) :
    Meaning i s (Machine.complete (s.nextPc n) (pushByte s v)) :=
  .complete hl (.after .of_eq (.writeByte hw))

theorem pushWord {n : Nat} {v : Word} (hl : byteLength i = n) (hw : writesMemory i = true) :
    Meaning i s (Machine.complete (s.nextPc n) (pushWord s v)) :=
  .complete hl (.after .of_eq (.writeWord hw))

theorem pullByte {n : Nat} {f : Byte → State → State} (hl : byteLength i = n)
    (hf : ∀ v t, RegisterUpdate (keepsCcr i) t (f v t)) :
    Meaning i s (Machine.complete (s.nextPc n) (pullByte s f)) := by
  rw [pullByte_eq]
  exact .complete hl (.read (fun ho => readByte_total ho _) fun v => .ok (.trans .of_eq (hf v _)))

theorem pullWord {n : Nat} {f : Word → State → State} (hl : byteLength i = n)
    (hf : ∀ v t, RegisterUpdate (keepsCcr i) t (f v t)) :
    Meaning i s (Machine.complete (s.nextPc n) (pullWord s f)) := by
  rw [pullWord_eq]
  exact .complete hl (.read (fun ho => readWord_total ho _) fun v => .ok (.trans .of_eq (hf v _)))

theorem movb (src : MovSrc8) (dst : MovDst) : Meaning (.movb src dst) s (execMovb src dst s) := by
  rw [execMovb_eq]
  exact .refusedUnless id (.complete (encodeMovb_length src dst) (.operand (fetchMovSrc8_operand src _ s) fun p =>
    .operand (resolveMovDst_operand dst _ p.2) fun q => .writeByte rfl))

theorem movw (src : MovSrc16) (dst : MovDst) : Meaning (.movw src dst) s (execMovw src dst s) := by
  rw [execMovw_eq]
  exact .refusedUnless id (.complete (encodeMovw_length src dst) (.operand (fetchMovSrc16_operand src _ s) fun p =>
    .operand (resolveMovDst_operand dst _ p.2) fun q => .writeWord rfl))

theorem divide {n : Nat} {dst : QuotientReg} {k : DivideKind} {o : Quotient} (hl : byteLength i = n)
    (hk : keepsCcr i = false) : Meaning i s (divide n dst k o s) := by
  have hfree : RegisterUpdate (keepsCcr i) s (freeQuotient dst s) :=
    .trans (.setQuotient .of_eq) .of_eq
  cases o with
  | result q r => exact .finish hl (.setFlags (.trans (.setQuotient .of_eq) .of_eq) hk)
  | byZero => exact .unstated _ _ (.finish hl (hfree.setFlags hk))
  | overflow => exact .unstated _ _ (.finish hl (hfree.setFlags hk))

theorem mixedExchange {p : Reg8} {q : Reg16} (hl : byteLength i = 2) (hk : p = .ccr → keepsCcr i = false) :
    Meaning i s (mixedExchange p q s) :=
  .unstated _ _ (.finish hl (.trans (.set16 (.set8 .of_eq hk)) .of_eq))

theorem exg (p q : Reg) : Meaning (.exg p q) s (execExg p q s) := by
  cases p with
  | r8 p =>
    cases q with
    | r8 q =>
      exact .finish rfl (.set8 (.set8 .of_eq fun h => by rw [h]; rfl) fun h => by rw [h]; exact Bool.and_false _)
    | r16 q => exact .mixedExchange rfl fun h => by rw [h]; rfl
  | r16 p =>
    cases q with
    | r8 q => exact .mixedExchange rfl fun h => by rw [h]; rfl
    | r16 q => exact .finish rfl (.set16 (.set16 .of_eq))

theorem tfr (p q : Reg) : Meaning (.tfr p q) s (execTfr p q s) := by
  refine .finish rfl ?_
  cases q with
  | r8 q => cases p <;> exact .set8 .of_eq fun h => by rw [h]; rfl
  | r16 q => cases p <;> exact .set16 .of_eq

end Meaning

/-- Every instruction's meaning is of that form. -/
theorem exec_meaning (i : Instr) (s : State) : Meaning i s (exec i s) := by
  cases i with
  | ldaa op | ldab op =>
    exact .withSrc8 (encodeSrc8_length _ _ _ _ op) fun _ _ => .setFlags .of_eq rfl
  | adca op | adcb op | adda op | addb op | sbca op | sbcb op | suba op | subb op =>
    exact .withSrc8 (encodeSrc8_length _ _ _ _ op) fun _ _ => .setFlags .of_eq rfl
  | cmpa op | cmpb op =>
    exact .withSrc8 (encodeSrc8_length _ _ _ _ op) fun _ _ => .setFlags .of_eq rfl
  | anda op | andb op | eora op | eorb op | oraa op | orab op =>
    exact .withSrc8 (encodeSrc8_length _ _ _ _ op) fun _ _ => .setFlags .of_eq rfl
  | ldd op | addd op | subd op | cpd op =>
    exact .withSrc16 (encodeSrc16_length _ _ _ _ op) fun _ _ => .setFlags .of_eq rfl
  | lds op | ldx op | ldy op | cps op | cpx op | cpy op =>
    exact .refusedIf rfl (.withSrc16 (encodeSrc16_length _ _ _ _ op) fun _ _ => .setFlags .of_eq rfl)
  | staa ea | stab ea => exact .storeByte (encodeEa_length _ _ _ ea) rfl rfl
  | std ea => exact .storeWord (encodeEa_length _ _ _ ea) rfl rfl
  | sts ea | stx ea | sty ea => exact .refusedIf rfl (.storeWord (encodeEa_length _ _ _ ea) rfl rfl)
  | leas x | leax x | leay x =>
    exact .loadAddress (opcode_encodeIdx_length _ x) rfl fun _ _ => .of_eq
  | clr ea => exact .writeByteXI (encodeEaXI_length _ _ ea) rfl rfl
  | tst ea => exact .testByteXI (encodeEaXI_length _ _ ea) rfl
  | dec ea | inc ea | com ea | neg ea => exact .modifyByte (encodeEaXI_length _ _ ea) rfl rfl
  | lsl ea | lsr ea | asl ea | asr ea | rol ea | ror ea => exact .modifyByte (encodeEaXI_length _ _ ea) rfl rfl
  | psha | pshb | pshc => exact .pushByte rfl rfl
  | pshcw | pshd | pshx | pshy => exact .pushWord rfl rfl
  | pula | pulb => exact .pullByte rfl fun _ _ => .of_eq
  | pulc => exact .pullByte rfl fun _ _ => .writeCcr .of_eq rfl
  | pulcw => exact .pullWord rfl fun _ _ => .writeCcr .of_eq rfl
  | puld | pulx | puly => exact .pullWord rfl fun _ _ => .of_eq
  | movb src dst => exact .movb src dst
  | movw src dst => exact .movw src dst
  | ediv | edivs | fdiv | idiv | idivs => exact .divide rfl rfl
  | tfr r1 r2 => exact .tfr r1 r2
  | exg r1 r2 => exact .exg r1 r2
  | sex r1 r2 => exact .finish rfl (.set16 .of_eq)
  | tap | orcc ii => exact .finish rfl (.writeCcr .of_eq rfl)
  | andcc ii => exact .finish rfl (.andCcr rfl)
  | tpa | tsx | tsy | txs | tys | xgdx | xgdy | des | ins | abx | aby => exact .finish rfl .of_eq
  | tab | tba | aba | sba | cba | tsta | tstb => exact .finish rfl (.setFlags .of_eq rfl)
  | clc | cli | clv | clra | clrb | coma | comb | nega | negb => exact .finish rfl (.setFlags .of_eq rfl)
  | deca | decb | dex | dey | inca | incb | inx | iny => exact .finish rfl (.setFlags .of_eq rfl)
  | emul | emuls | mul => exact .finish rfl (.setFlags .of_eq rfl)
  | lsla | lslb | lsld | lsra | lsrb | lsrd | asla | aslb | asld | asra | asrb | rola | rolb | rora | rorb =>
    exact .finish rfl (.setFlags .of_eq rfl)

/-- What a completing instruction does: its effect, and PC at the address after it (R13). -/
theorem exec_next {i : Instr} {s t : State} (h : exec i s = .next t) :
    ∃ u, Effect (writesMemory i) (keepsCcr i) s u ∧ t = { u with pc := nextOf i s } :=
  (exec_meaning i s).effect h

theorem step_eq_next {s t : State} (h : step s = .next t) : ∃ i, exec i s = .next t := by
  unfold step at h
  split at h
  · exact ⟨_, h⟩
  · exact absurd h (stopWith_ne_next _ t)

end Sys2Proof.Machine

namespace Sys2Proof

open Sys2Proof.Machine Sys2Proof.Safety

/-- Settles O11: a step is one instruction's effect, which keeps the parameters and writes no text byte. -/
theorem stepKeepsProgramText : Obligations.StepKeepsProgramText := by
  intro s t h
  obtain ⟨i, hi⟩ := step_eq_next h
  obtain ⟨u, hu, rfl⟩ := exec_next hi
  exact ⟨hu.launch, fun a ha => hu.byteAt_of_inCode ha⟩

/-- Settles O12: an instruction completes at `nextOf`, its length after PC. -/
theorem completionAdvancesPcByTheLength : Obligations.CompletionAdvancesPcByTheLength := by
  intro i s t h
  obtain ⟨u, -, rfl⟩ := exec_next h
  change (s.pc + BitVec.ofNat 16 (encode i).length).toNat = _
  rw [BitVec.toNat_add, BitVec.toNat_ofNat, Nat.add_mod_mod]

/-- Settles O17: a well-formed instruction's meaning is a body, which answers when every access does. -/
theorem everyWellFormedInstructionCompletes : Obligations.EveryWellFormedInstructionCompletes :=
  fun i s hw ho => (exec_meaning i s).total hw ho

end Sys2Proof
end

section
/-! SUPPORT. Addition and subtraction by numbers: the flags of `addN` and `subN` are the rows of R217, and an
instruction with a source operand completes where the operand is readable and is stuck elsewhere (R51, R377). -/

namespace Sys2Proof.Machine

open Sys2Proof.Safety

/-! ## Flags by numbers -/

theorem addN_vf8 (a b : Byte) (cin : Bool) :
    (addN a b cin).vf = outside8 (a.toInt + b.toInt + cin.toNat) := by
  rw [Bool.eq_iff_iff]
  simp only [addN, outside8, BitVec.msb_eq_decide, BitVec.toInt_eq_toNat_cond, BitVec.toNat_ofNat, Bool.and_eq_true,
    beq_iff_eq, bne_iff_ne, decide_eq_true_eq, decide_eq_decide, ne_eq]
  have ha := a.isLt
  have hb := b.isLt
  have hc := cin.toNat_le
  omega

theorem addN_vf16 (a b : Word) (cin : Bool) :
    (addN a b cin).vf = outside16 (a.toInt + b.toInt + cin.toNat) := by
  rw [Bool.eq_iff_iff]
  simp only [addN, outside16, BitVec.msb_eq_decide, BitVec.toInt_eq_toNat_cond, BitVec.toNat_ofNat, Bool.and_eq_true,
    beq_iff_eq, bne_iff_ne, decide_eq_true_eq, decide_eq_decide, ne_eq]
  have ha := a.isLt
  have hb := b.isLt
  have hc := cin.toNat_le
  omega

theorem subN_vf8 (a b : Byte) (bin : Bool) :
    (subN a b bin).vf = outside8 (a.toInt - b.toInt - bin.toNat) := by
  rw [Bool.eq_iff_iff]
  simp only [subN, outside8, BitVec.msb_eq_decide, BitVec.toInt_eq_toNat_cond, BitVec.toNat_ofInt, Bool.and_eq_true,
    bne_iff_ne, decide_eq_true_eq, decide_eq_decide, ne_eq]
  have ha := a.isLt
  have hb := b.isLt
  have hc := bin.toNat_le
  omega

theorem subN_vf16 (a b : Word) (bin : Bool) :
    (subN a b bin).vf = outside16 (a.toInt - b.toInt - bin.toNat) := by
  rw [Bool.eq_iff_iff]
  simp only [subN, outside16, BitVec.msb_eq_decide, BitVec.toInt_eq_toNat_cond, BitVec.toNat_ofInt, Bool.and_eq_true,
    bne_iff_ne, decide_eq_true_eq, decide_eq_decide, ne_eq]
  have ha := a.isLt
  have hb := b.isLt
  have hc := bin.toNat_le
  omega

/-- N is the top bit of the sum modulo `2 ^ n`, as a bound. -/
theorem addN_nf {n : Nat} (a b : BitVec n) (cin : Bool) :
    (addN a b cin).nf = decide (2 ^ (n - 1) ≤ (a.toNat + b.toNat + cin.toNat) % 2 ^ n) := by
  simp only [addN, BitVec.msb_eq_decide, BitVec.toNat_ofNat]

theorem addN_zf {n : Nat} (a b : BitVec n) (cin : Bool) :
    (addN a b cin).zf = decide ((a.toNat + b.toNat + cin.toNat) % 2 ^ n = 0) := by
  rw [Bool.eq_iff_iff]
  simp [addN, ← BitVec.toNat_inj]

theorem subN_nf {n : Nat} (a b : BitVec n) (bin : Bool) :
    (subN a b bin).nf =
      decide ((2 : Int) ^ (n - 1) ≤ ((a.toNat : Int) - b.toNat - bin.toNat) % (2 ^ n : Nat)) := by
  rw [Bool.eq_iff_iff]
  have hpos : (0 : Int) ≤ ((a.toNat : Int) - b.toNat - bin.toNat) % (2 ^ n : Nat) :=
    Int.emod_nonneg _ (by simp)
  simp only [subN, BitVec.msb_eq_decide, BitVec.toNat_ofInt, decide_eq_true_eq]
  rw [Int.le_toNat hpos]
  push_cast
  rfl

theorem subN_zf {n : Nat} (a b : BitVec n) (bin : Bool) :
    (subN a b bin).zf = decide (((a.toNat : Int) - b.toNat - bin.toNat) % (2 ^ n : Nat) = 0) := by
  rw [Bool.eq_iff_iff]
  have hpos : (0 : Int) ≤ ((a.toNat : Int) - b.toNat - bin.toNat) % (2 ^ n : Nat) :=
    Int.emod_nonneg _ (by simp)
  simp only [subN, beq_iff_eq, decide_eq_true_eq, ← BitVec.toNat_inj, BitVec.toNat_ofInt, BitVec.toNat_zero]
  omega

theorem addN_update8 (a m : Byte) (cin : Bool) : (addN a m cin).update8 = sumRow8 a m cin.toNat := by
  simp only [AddOut.update8, addN_nf, addN_zf, addN_vf8]
  rfl

theorem addN_update16 (a m : Word) : (addN a m false).update16 = sumRow16 a m := by
  simp only [AddOut.update16, addN_nf, addN_zf, addN_vf16]
  simp [sumRow16, addN]

theorem subN_update8 (a m : Byte) (bin : Bool) : (subN a m bin).update = diffRow8 a m bin.toNat := by
  have hc : (subN a m bin).cf = decide (a.toNat < m.toNat + bin.toNat) := by
    rw [Bool.eq_iff_iff]
    simp only [subN, decide_eq_true_eq]
    omega
  simp only [SubOut.update, subN_nf, subN_zf, subN_vf8, hc]
  rfl

theorem subN_update16 (a m : Word) : (subN a m false).update = diffRow16 a m := by
  have ha := a.isLt
  have hm := m.isLt
  have hc : (subN a m false).cf = decide (a.toNat < m.toNat) := by
    rw [Bool.eq_iff_iff]
    simp only [subN, Bool.toNat_false, decide_eq_true_eq]
    omega
  have hz : (subN a m false).zf = decide (a = m) := by
    rw [subN_zf, Bool.eq_iff_iff]
    simp only [Bool.toNat_false, decide_eq_true_eq, ← BitVec.toNat_inj]
    omega
  simp only [SubOut.update, subN_nf, hz, subN_vf16, hc]
  simp [diffRow16]

/-! ## Additions and subtractions of a register -/

theorem carry_eq_flagC (s : State) : carry s = s.flagC.toNat := by
  unfold carry State.flagC
  cases s.ccr.getLsbD 0 <;> rfl

theorem addIntoA_eq (v : Byte) (cin : Bool) (s : State) : addIntoA v cin s =
    State.setFlags { s with a := BitVec.ofNat 8 (s.a.toNat + v.toNat + cin.toNat) } (sumRow8 s.a v cin.toNat) := by
  rw [addIntoA, addN_update8]
  rfl

theorem addIntoB_eq (v : Byte) (cin : Bool) (s : State) : addIntoB v cin s =
    State.setFlags { s with b := BitVec.ofNat 8 (s.b.toNat + v.toNat + cin.toNat) } (sumRow8 s.b v cin.toNat) := by
  rw [addIntoB, addN_update8]
  rfl

theorem subFromA_eq (v : Byte) (bin : Bool) (s : State) : subFromA v bin s =
    State.setFlags { s with a := BitVec.ofInt 8 ((s.a.toNat : Int) - v.toNat - bin.toNat) }
      (diffRow8 s.a v bin.toNat) := by
  rw [subFromA, subN_update8]
  rfl

theorem subFromB_eq (v : Byte) (bin : Bool) (s : State) : subFromB v bin s =
    State.setFlags { s with b := BitVec.ofInt 8 ((s.b.toNat : Int) - v.toNat - bin.toNat) }
      (diffRow8 s.b v bin.toNat) := by
  rw [subFromB, subN_update8]
  rfl

theorem State.d_toNat (s : State) : s.d.toNat = dNat s := joinBytes_toNat s.a s.b

theorem SameButIndex.d {s t : State} (h : SameButIndex s t) : t.d = s.d := by
  rw [State.d, h.a, h.b, State.d]

theorem State.setD_eq (s : State) (v : Word) :
    s.setD v = { s with a := BitVec.ofNat 8 (v.toNat / 256), b := BitVec.ofNat 8 (v.toNat % 256) } := by
  have ha : hiByte v = BitVec.ofNat 8 (v.toNat / 256) := by
    rw [← hiByte_toNat, BitVec.ofNat_toNat, BitVec.setWidth_eq]
  have hb : loByte v = BitVec.ofNat 8 (v.toNat % 256) := by
    rw [← loByte_toNat, BitVec.ofNat_toNat, BitVec.setWidth_eq]
  rw [State.setD, ha, hb]

/-! ## Completing and stopping -/

theorem nextOf_eq {i : Instr} {s : State} {n : Nat} (hl : byteLength i = n) : nextOf i s = s.nextPc n := hl ▸ rfl

theorem nextOf_ldaa (op : Src8) (s : State) : nextOf (.ldaa op) s = s.nextPc (1 + src8Size op) :=
  nextOf_eq (i := .ldaa op) (encodeSrc8_length _ _ _ _ op)

theorem nextOf_ldd (op : Src16) (s : State) : nextOf (.ldd op) s = s.nextPc (1 + src16Size op) :=
  nextOf_eq (i := .ldd op) (encodeSrc16_length _ _ _ _ op)

theorem completesTo_of_setFlags {i : Instr} {s t : State} {u : FlagUpdate}
    (h : exec i s = .next { t.setFlags u with pc := nextOf i s }) (hc : t.ccr = s.ccr) : CompletesTo i s t u :=
  ⟨applyFlags t.ccr u, h, hc ▸ applyFlags_row t.ccr u⟩

theorem completesTo_finish {i : Instr} {s t : State} {u : FlagUpdate} {n : Nat} (hl : byteLength i = n)
    (he : exec i s = finish n s (t.setFlags u)) (hc : t.ccr = s.ccr) : CompletesTo i s t u :=
  completesTo_of_setFlags (by rw [he, finish_eq, nextOf_eq hl]) hc

theorem withSrc8_of_reads {op : Src8} {s s1 : State} {v : Byte} (hr : Reads8 op s v s1) (f : Byte → State → State) :
    withSrc8 op s f = .next { f v s1 with pc := s.nextPc (1 + src8Size op) } := by
  rw [Reads8, nextOf_ldaa] at hr
  rw [withSrc8_eq, hr, ok_bind, complete_ok]

theorem withSrc16_of_reads {op : Src16} {s s1 : State} {v : Word} (hr : Reads16 op s v s1)
    (f : Word → State → State) : withSrc16 op s f = .next { f v s1 with pc := s.nextPc (1 + src16Size op) } := by
  rw [Reads16, nextOf_ldd] at hr
  rw [withSrc16_eq, hr, ok_bind, complete_ok]

theorem withSrc8_of_unreadable {op : Src8} {s : State} (h : Unreadable8 op s) (f : Byte → State → State) :
    withSrc8 op s f = .fault .stuck := by
  simp only [Unreadable8, Reads8, nextOf_ldaa] at h
  rw [withSrc8_eq]
  cases hf : fetchSrc8 op (s.nextPc (1 + src8Size op)) s with
  | ok p => exact absurd hf (h p.1 p.2)
  | error e => rw [fetchSrc8_error hf]; rfl

theorem withSrc16_of_unreadable {op : Src16} {s : State} (h : Unreadable16 op s) (f : Word → State → State) :
    withSrc16 op s f = .fault .stuck := by
  simp only [Unreadable16, Reads16, nextOf_ldd] at h
  rw [withSrc16_eq]
  cases hf : fetchSrc16 op (s.nextPc (1 + src16Size op)) s with
  | ok p => exact absurd hf (h p.1 p.2)
  | error e => rw [fetchSrc16_error hf]; rfl

theorem completesTo_withSrc8 {i : Instr} {op : Src8} {f : Byte → State → State} {s s1 t : State} {v : Byte}
    {u : FlagUpdate} (hl : byteLength i = 1 + src8Size op) (he : exec i s = withSrc8 op s f) (hr : Reads8 op s v s1)
    (hf : f v s1 = t.setFlags u) (hc : t.ccr = s1.ccr) : CompletesTo i s t u :=
  completesTo_of_setFlags (by rw [he, withSrc8_of_reads hr, hf, nextOf_eq hl]) (hc.trans (fetchSrc8_same hr).ccr)

theorem completesTo_withSrc16 {i : Instr} {op : Src16} {f : Word → State → State} {s s1 t : State} {v : Word}
    {u : FlagUpdate} (hl : byteLength i = 1 + src16Size op) (he : exec i s = withSrc16 op s f)
    (hr : Reads16 op s v s1) (hf : f v s1 = t.setFlags u) (hc : t.ccr = s1.ccr) : CompletesTo i s t u :=
  completesTo_of_setFlags (by rw [he, withSrc16_of_reads hr, hf, nextOf_eq hl]) (hc.trans (fetchSrc16_same hr).ccr)

end Sys2Proof.Machine

namespace Sys2Proof

open Sys2Proof.Machine Sys2Proof.Safety

/-- Settles O41: each form adds by `addIntoA` or `addIntoB`, whose row is `sumRow8`. -/
theorem byteAdditions : Obligations.ByteAdditions := by
  intro op s
  refine ⟨completesTo_finish rfl (congrArg (finish 2 s) (addIntoA_eq s.b false s)) rfl, fun s1 v hr => ?_,
    fun hu i hi => ?_⟩
  · have same := fetchSrc8_same hr
    rw [← same.a, ← same.b, carry_eq_flagC]
    exact ⟨completesTo_withSrc8 (encodeSrc8_length _ _ _ _ op) rfl hr (addIntoA_eq v false s1) rfl,
      completesTo_withSrc8 (encodeSrc8_length _ _ _ _ op) rfl hr (addIntoB_eq v false s1) rfl,
      completesTo_withSrc8 (encodeSrc8_length _ _ _ _ op) rfl hr (addIntoA_eq v s.flagC s1) rfl,
      completesTo_withSrc8 (encodeSrc8_length _ _ _ _ op) rfl hr (addIntoB_eq v s.flagC s1) rfl⟩
  · simp only [List.mem_cons, List.not_mem_nil, or_false] at hi
    rcases hi with rfl | rfl | rfl | rfl <;> exact withSrc8_of_unreadable hu _

/-- Settles O42: each form subtracts by `subFromA` or `subFromB`, whose row is `diffRow8`. -/
theorem byteSubtractions : Obligations.ByteSubtractions := by
  intro op s
  have hA := fun v t => subFromA_eq v false t
  have hB := fun v t => subFromB_eq v false t
  simp only [Bool.toNat_false, Nat.cast_zero, sub_zero] at hA hB
  refine ⟨completesTo_finish rfl (congrArg (finish 2 s) (hA s.b s)) rfl, fun s1 v hr => ?_, fun hu i hi => ?_⟩
  · have same := fetchSrc8_same hr
    rw [← same.a, ← same.b, carry_eq_flagC]
    exact ⟨completesTo_withSrc8 (encodeSrc8_length _ _ _ _ op) rfl hr (hA v s1) rfl,
      completesTo_withSrc8 (encodeSrc8_length _ _ _ _ op) rfl hr (hB v s1) rfl,
      completesTo_withSrc8 (encodeSrc8_length _ _ _ _ op) rfl hr (subFromA_eq v s.flagC s1) rfl,
      completesTo_withSrc8 (encodeSrc8_length _ _ _ _ op) rfl hr (subFromB_eq v s.flagC s1) rfl⟩
  · simp only [List.mem_cons, List.not_mem_nil, or_false] at hi
    rcases hi with rfl | rfl | rfl | rfl <;> exact withSrc8_of_unreadable hu _

/-- Settles O43: D takes the word of `addN` or `subN`, whose rows are `sumRow16` and `diffRow16`. -/
theorem wordAdditionAndSubtraction : Obligations.WordAdditionAndSubtraction := by
  intro op s
  refine ⟨fun s1 v d hd hr => ?_, fun hu i hi => ?_⟩
  · have hd1 : s1.d = d := by
      rw [(fetchSrc16_same hr).d, ← BitVec.toNat_inj, hd, State.d_toNat]
    refine ⟨⟨(addN d v false).r, ?_, completesTo_withSrc16 (encodeSrc16_length _ _ _ _ op) rfl hr ?_ rfl⟩,
      ⟨(subN d v false).r, ?_, completesTo_withSrc16 (encodeSrc16_length _ _ _ _ op) rfl hr ?_ rfl⟩⟩
    · rw [← hd]
      exact BitVec.toNat_ofNat _ _
    · rw [← addN_update16, ← State.setD_eq, hd1]
    · rw [← hd]
      simp only [subN, BitVec.toNat_ofInt, Bool.toNat_false]
      omega
    · rw [← subN_update16, ← State.setD_eq, hd1]
  · simp only [List.mem_cons, List.not_mem_nil, or_false] at hi
    rcases hi with rfl | rfl <;> exact withSrc16_of_unreadable hu _

end Sys2Proof
end

section
/-! SUPPORT. The decoder reads an instruction from the head of the bytes, whatever follows, and the fetch window
starts with the program bytes at PC: so a step runs the instruction those bytes hold (R71, R73). -/

namespace Sys2Proof

/-! ## Readers of the head of the bytes -/

/-- A reader that answers on some bytes answers the same on more, and leaves the more. -/
def Extends {α : Type} (p : List Byte → Except DecodeError (α × List Byte)) : Prop :=
  ∀ bs v rest tail, p bs = .ok (v, rest) → p (bs ++ tail) = .ok (v, rest ++ tail)

namespace Extends

variable {α : Type} {p q : List Byte → Except DecodeError (α × List Byte)}

theorem ok (v : α) : Extends fun bs => .ok (v, bs) := by
  intro bs v rest tail h
  cases h
  rfl

theorem error (e : DecodeError) : Extends (α := α) fun _ => .error e := fun _ _ _ _ h => by cases h

theorem ite {c : Prop} [Decidable c] (hp : Extends p) (hq : Extends q) :
    Extends fun bs => if c then p bs else q bs := by
  by_cases hc : c
  · simpa only [if_pos hc] using hp
  · simpa only [if_neg hc] using hq

/-- A reader that needs a byte, and extends once it has it. -/
theorem of_cons (hn : p [] = .error .truncated) (hc : ∀ b, Extends fun bs => p (b :: bs)) : Extends p := by
  intro bs v rest tail h
  cases bs with
  | nil => rw [hn] at h; cases h
  | cons b bs => exact hc b bs v rest tail h

end Extends

theorem decodeIdxLong_extends (r : Base) (zzz : BitVec 3) : Extends (decodeIdxLong r zzz) :=
  .ite (.ok _) (.ite (.ok _) (.ite (.ok _) (.ite (.ok _) (.of_cons rfl fun _ =>
    .ite (.ok _) (.ite (.ok _) (.of_cons rfl fun _ => .ite (.ok _) (.ok _)))))))

theorem decodeIdx_extends : Extends decodeIdx := by
  refine .of_cons rfl fun xb => .ite (.ok _) ?_
  cases AutoBase.ofCode (xb.extractLsb' 6 2) with
  | some r => exact .ok _
  | none => exact decodeIdxLong_extends _ _

@[simp] theorem parseInh_extends (i : Instr) : Extends (parseInh i) := .ok i

@[simp] theorem parseByte_extends (f : Byte → Instr) : Extends (parseByte f) := .of_cons rfl fun _ => .ok _

@[simp] theorem parseWord_extends (f : Word → Instr) : Extends (parseWord f) :=
  .of_cons rfl fun _ => .of_cons rfl fun _ => .ok _

@[simp] theorem parseIdx_extends (f : Idx → Instr) : Extends (parseIdx f) := by
  intro bs v rest tail h
  unfold parseIdx at h ⊢
  split at h
  · next i r hi =>
    rw [decodeIdx_extends bs i r tail hi]
    cases h
    rfl
  · cases h

@[simp] theorem parseReg_extends : Extends parseReg := by
  refine .of_cons rfl fun eb => .ite (.error _) ?_
  cases Reg.ofCode (eb.extractLsb' 4 3) with
  | none => exact .error _
  | some r1 =>
    cases Reg.ofCode (eb.extractLsb' 0 3) with
    | none => exact .error _
    | some r2 => exact .ok _

theorem movWithIdx_extends (xb : Byte) (f : Idx → Instr) : Extends (movWithIdx xb f) := by
  unfold movWithIdx
  cases decodeMovIdx xb with
  | none => exact .error _
  | some i => exact .ok _

@[simp] theorem parseIdxByte_extends (f : Idx → Byte → Instr) : Extends (parseIdxByte f) :=
  .of_cons rfl fun xb => .of_cons rfl fun _ => movWithIdx_extends xb _

@[simp] theorem parseIdxWord_extends (f : Idx → Word → Instr) : Extends (parseIdxWord f) :=
  .of_cons rfl fun xb => .of_cons rfl fun _ => .of_cons rfl fun _ => movWithIdx_extends xb _

@[simp] theorem parseIdxIdx_extends (f : Idx → Idx → Instr) : Extends (parseIdxIdx f) := by
  refine .of_cons rfl fun xb1 => .of_cons rfl fun xb2 => ?_
  simp only [parseIdxIdx]
  cases decodeMovIdx xb1 with
  | none => exact .error _
  | some i =>
    cases decodeMovIdx xb2 with
    | none => exact .error _
    | some j => exact .ok _

@[simp] theorem parseByteWord_extends (f : Byte → Word → Instr) : Extends (parseByteWord f) :=
  .of_cons rfl fun _ => .of_cons rfl fun _ => .of_cons rfl fun _ => .ok _

@[simp] theorem parseWordWord_extends (f : Word → Word → Instr) : Extends (parseWordWord f) :=
  .of_cons rfl fun _ => .of_cons rfl fun _ => .of_cons rfl fun _ => .of_cons rfl fun _ => .ok _

/-! ## The pages of the opcode map -/

/-- Every row of the page extends. -/
def PageExtends (page : List (Nat × Parser)) : Prop := ∀ row ∈ page, Extends row.2

@[simp] theorem pageExtends_nil : PageExtends [] := nofun

@[simp] theorem pageExtends_cons (row : Nat × Parser) (page : List (Nat × Parser)) :
    PageExtends (row :: page) ↔ Extends row.2 ∧ PageExtends page := List.forall_mem_cons

@[simp] theorem pageExtends_append (l m : List (Nat × Parser)) :
    PageExtends (l ++ m) ↔ PageExtends l ∧ PageExtends m := List.forall_mem_append

theorem page1_extends : PageExtends page1 := by
  simp only [page1, pageExtends_append]
  simp [page1Row0, page1Row1, page1Row3, page1Row4, page1Row5, page1Row6, page1Row7, page1Row8, page1Row9, page1RowA,
    page1RowB, page1RowC, page1RowD, page1RowE, page1RowF]

theorem page2_extends : PageExtends page2 := by
  simp [page2, page2Moves, page2Inherent]

theorem decodeWith_extends {page : List (Nat × Parser)} (h : PageExtends page) (op : Byte) :
    Extends (decodeWith page op) := by
  unfold decodeWith
  induction page with
  | nil => exact .error _
  | cons row page ih =>
    obtain ⟨hrow, hpage⟩ := (pageExtends_cons row page).1 h
    rw [List.lookup_cons]
    cases op.toNat == row.1 with
    | true => exact hrow
    | false => exact ih hpage

theorem decodeGeneral_extends : Extends decodeGeneral := 
  .of_cons rfl fun op => .ite (.of_cons rfl fun op2 => decodeWith_extends page2_extends op2)
    (decodeWith_extends page1_extends op)

theorem decode_extends : Extends decode := by
  intro bs v rest tail h
  unfold decode at h ⊢
  split at h
  · next i r hi =>
    rw [decodeGeneral_extends bs i r tail hi]
    cases h
    rfl
  · cases h

end Sys2Proof

namespace Sys2Proof.Machine

open Sys2Proof.Safety

/-! ## The fetch -/

/-- The window from `a` starts with the program text there, as far as it reaches (R63). -/
theorem fetchWindow_eq_append (s : State) (bs : List Byte) (k : Nat) (a : Word) (hk : bs.length ≤ k)
    (h : ∀ j, j < bs.length →
      s.launch.inCode (a + BitVec.ofNat 16 j) = true ∧ bs[j]? = some (s.byteAt (a + BitVec.ofNat 16 j))) :
    ∃ tail, fetchWindow s k a = bs ++ tail := by
  induction bs generalizing k a with
  | nil => exact ⟨_, rfl⟩
  | cons b bs ih =>
    obtain ⟨k, rfl⟩ : ∃ m, k = m + 1 := ⟨k - 1, by rw [List.length_cons] at hk; omega⟩
    obtain ⟨hcode, hbyte⟩ := h 0 (Nat.zero_lt_succ _)
    rw [BitVec.add_zero] at hcode hbyte
    obtain rfl : b = s.byteAt a := Option.some.inj hbyte
    obtain ⟨tail, ht⟩ := ih k (a + 1#16) (Nat.le_of_succ_le_succ hk) fun j hj => by
      have hnext : a + 1#16 + BitVec.ofNat 16 j = a + BitVec.ofNat 16 (j + 1) := by
        rw [BitVec.add_assoc, Nat.add_comm j, BitVec.ofNat_add]
      rw [hnext]
      exact h (j + 1) (Nat.succ_lt_succ hj)
    exact ⟨tail, by rw [fetchWindow, if_pos hcode, ht, List.cons_append]⟩

theorem fetchWindow_of_textBytes {s : State} {bs : List Byte} (h : TextBytes s bs) (hk : bs.length ≤ 6) :
    ∃ tail, fetchWindow s 6 s.pc = bs ++ tail :=
  fetchWindow_eq_append s bs 6 s.pc hk h

theorem fetchAdmitted_of_programBytes {s : State} {bs : List Byte} (h : ProgramBytes s bs) {n : Nat}
    (hn : n ≤ bs.length) : fetchAdmitted s n = true :=
  List.all_eq_true.2 fun k hk => (h k (Nat.lt_of_lt_of_le (List.mem_range.1 hk) hn)).2.1

theorem fetchInstr_of_programBytes {s : State} {bs rest : List Byte} {i : Instr} (he : s.pc ≠ s.launch.endPc)
    (hlen : bs.length ≤ 6) (hp : ProgramBytes s bs) (hd : decode bs = .ok (i, rest)) : fetchInstr s = .ok i := by
  have htext : TextBytes s bs := fun k hk => ⟨(hp k hk).1, (hp k hk).2.2⟩
  obtain ⟨tail, ht⟩ := fetchWindow_of_textBytes htext hlen
  have hadm : fetchAdmitted s ((bs ++ tail).length - (rest ++ tail).length) = true :=
    fetchAdmitted_of_programBytes hp (by simp only [List.length_append]; omega)
  rw [fetchInstr, if_neg he, ht]
  simp only [decodeFetched, decode_extends bs i rest tail hd, hadm, Bool.not_true, Bool.and_false, Bool.false_eq_true,
    if_false]

end Sys2Proof.Machine

namespace Sys2Proof

open Sys2Proof.Machine Sys2Proof.Safety

/-- Settles O7: the window starts with the bytes at PC, and the decoder reads no further than their instruction. -/
theorem stepRunsTheDecodedInstruction : Obligations.StepRunsTheDecodedInstruction := by
  intro s bs rest i he hlen hp hd
  rw [step, fetchInstr_of_programBytes he hlen hp hd]

end Sys2Proof
end

section
/-! SUPPORT. The bits of CCR and CCR_H over every instruction: X is never set, the instructions of `keepsCcr` leave CCR,
and no instruction but PSHCW and PULCW depends on CCR_H or changes it (R29, R30, R31). That CCR_H does not matter is
said operation by operation: with another CCR_H each answers the same, with that CCR_H in the state it leaves. -/

namespace Sys2Proof.Machine

open Sys2Proof.Safety

/-- `s` with CCR_H holding `h`. -/
def State.withCcrh (h : Byte) (s : State) : State := { s with ccrh := h }

/-! ## Sequences of operations -/

/-- Two sequences agree up to CCR_H where their first operations do and their rests do. -/
theorem bind_eq_map_bind {α β : Type} {φ : α → α} {ψ : β → β} {r r' : Except Stop α}
    {f f' : α → Except Stop β} (hr : r' = r.map φ) (hf : ∀ v, f' (φ v) = (f v).map ψ) :
    (r' >>= f') = (r >>= f).map ψ := by
  subst hr
  cases r with
  | error e => rfl
  | ok v => exact hf v

theorem complete_withCcrh {h : Byte} {next : Word} {r r' : Except Stop State} (hr : r' = r.map (State.withCcrh h)) :
    complete next r' = mapNext (State.withCcrh h) (complete next r) := by
  subst hr
  cases r with
  | error e => cases e <;> rfl
  | ok t => rfl

theorem finish_withCcrh {h : Byte} {n : Nat} {s t t' : State} (ht : t' = t.withCcrh h) :
    finish n (s.withCcrh h) t' = mapNext (State.withCcrh h) (finish n s t) :=
  complete_withCcrh (congrArg Except.ok ht)

theorem refusedIf_withCcrh {h : Byte} {c : Bool} {name : Refusal} {o o' : Host.Outcome State Fault Refusal}
    (ho : o' = mapNext (State.withCcrh h) o) :
    (if c then .refused name else o') = mapNext (State.withCcrh h) (if c then .refused name else o) := by
  cases c with
  | true => rfl
  | false => exact ho

theorem whereUnstated_withCcrh {h : Byte} {name : Refusal} {s : State} {o o' : Host.Outcome State Fault Refusal}
    (ho : o' = mapNext (State.withCcrh h) o) :
    whereUnstated name (s.withCcrh h) o' = mapNext (State.withCcrh h) (whereUnstated name s o) :=
  refusedIf_withCcrh ho

theorem refusedUnless_withCcrh {h : Byte} {c : Bool} {name : Refusal} {o o' : Host.Outcome State Fault Refusal}
    (ho : o' = mapNext (State.withCcrh h) o) :
    (if c then o' else .refused name) = mapNext (State.withCcrh h) (if c then o else .refused name) := by
  cases c with
  | true => exact ho
  | false => rfl

/-! ## Memory -/

/-- A read gives the same value, whatever CCR_H. -/
theorem readByte_withCcrh (h : Byte) (s : State) (a : Word) :
    readByte (s.withCcrh h) a = (readByte s a).map id := by
  cases hr : readByte s a <;> exact hr

theorem readWord_withCcrh (h : Byte) (s : State) (a : Word) :
    readWord (s.withCcrh h) a = (readWord s a).map id := by
  cases hr : readWord s a <;> exact hr

theorem writeByte_withCcrh (h : Byte) (s : State) (a : Word) (v : Byte) :
    writeByte (s.withCcrh h) a v = (writeByte s a v).map (State.withCcrh h) := by
  unfold writeByte
  rw [show (s.withCcrh h).launch = s.launch from rfl]
  cases s.launch.admits a <;> cases s.launch.inCode a <;> rfl

theorem writeWord_withCcrh (h : Byte) (s : State) (a v : Word) :
    writeWord (s.withCcrh h) a v = (writeWord s a v).map (State.withCcrh h) := by
  unfold writeWord
  rw [show (s.withCcrh h).launch = s.launch from rfl]
  cases s.launch.admits a && s.launch.admits (a + 1#16) <;>
    cases s.launch.inCode a || s.launch.inCode (a + 1#16) <;> rfl

theorem pushByte_withCcrh (h : Byte) (s : State) (v : Byte) :
    pushByte (s.withCcrh h) v = (pushByte s v).map (State.withCcrh h) :=
  writeByte_withCcrh h (s.setSp (s.sp - 1#16)) (s.sp - 1#16) v

theorem pushWord_withCcrh (h : Byte) (s : State) (v : Word) :
    pushWord (s.withCcrh h) v = (pushWord s v).map (State.withCcrh h) :=
  writeWord_withCcrh h (s.setSp (s.sp - 2#16)) (s.sp - 2#16) v

theorem pullByte_withCcrh {h : Byte} {s : State} {f : Byte → State → State}
    (hf : ∀ v t, f v (t.withCcrh h) = (f v t).withCcrh h) :
    pullByte (s.withCcrh h) f = (pullByte s f).map (State.withCcrh h) := by
  rw [pullByte_eq, pullByte_eq]
  exact bind_eq_map_bind (readByte_withCcrh h s s.sp) fun v => congrArg Except.ok (hf v (s.setSp (s.sp + 1#16)))

theorem pullWord_withCcrh {h : Byte} {s : State} {f : Word → State → State}
    (hf : ∀ v t, f v (t.withCcrh h) = (f v t).withCcrh h) :
    pullWord (s.withCcrh h) f = (pullWord s f).map (State.withCcrh h) := by
  rw [pullWord_eq, pullWord_eq]
  exact bind_eq_map_bind (readWord_withCcrh h s s.sp) fun v => congrArg Except.ok (hf v (s.setSp (s.sp + 2#16)))

/-! ## Operands -/

/-- A value or address with the state it leaves, that state with CCR_H holding `h`. -/
def withCcrhSnd {α : Type} (h : Byte) (p : α × State) : α × State := (p.1, p.2.withCcrh h)

theorem resolveIdx_withCcrh (h : Byte) (i : Idx) (next : Word) (s : State) :
    resolveIdx i next (s.withCcrh h) = (resolveIdx i next s).map (withCcrhSnd h) := by
  have base : ∀ r, (s.withCcrh h).base next r = s.base next r := fun r => by cases r <;> rfl
  cases i with
  | n5 r n | n9 r n | n16 r n => exact congrArg (fun b => Except.ok (b + _, s.withCcrh h)) (base r)
  | auto r post n => cases r <;> rfl
  | acc r o =>
    simp only [resolveIdx, base]
    cases o <;> rfl
  | indN16 r n =>
    simp only [resolveIdx, base, readWord_withCcrh]
    cases readWord s (s.base next r + n) <;> rfl
  | indD r =>
    simp only [resolveIdx, base, readWord_withCcrh, show (s.withCcrh h).d = s.d from rfl]
    cases readWord s (s.base next r + s.d) <;> rfl

theorem resolveEa_withCcrh (h : Byte) (ea : Ea) (next : Word) (s : State) :
    resolveEa ea next (s.withCcrh h) = (resolveEa ea next s).map (withCcrhSnd h) := by
  cases ea with
  | idx i => exact resolveIdx_withCcrh h i next s
  | _ => rfl

theorem resolveEaXI_withCcrh (h : Byte) (ea : EaXI) (next : Word) (s : State) :
    resolveEaXI ea next (s.withCcrh h) = (resolveEaXI ea next s).map (withCcrhSnd h) := by
  cases ea with
  | idx i => exact resolveIdx_withCcrh h i next s
  | _ => rfl

theorem resolveMovDst_withCcrh (h : Byte) (dst : MovDst) (next : Word) (s : State) :
    resolveMovDst dst next (s.withCcrh h) = (resolveMovDst dst next s).map (withCcrhSnd h) := by
  cases dst with
  | idx i => exact resolveIdx_withCcrh h i next s
  | _ => rfl

theorem fetchSrc8_withCcrh (h : Byte) (op : Src8) (next : Word) (s : State) :
    fetchSrc8 op next (s.withCcrh h) = (fetchSrc8 op next s).map (withCcrhSnd h) := by
  cases op with
  | imm v => rfl
  | mem ea =>
    simp only [fetchSrc8, resolveEa_withCcrh]
    cases resolveEa ea next s with
    | error e => rfl
    | ok p =>
      simp only [Except.map, withCcrhSnd, readByte_withCcrh]
      cases readByte p.2 p.1 <;> rfl

theorem fetchSrc16_withCcrh (h : Byte) (op : Src16) (next : Word) (s : State) :
    fetchSrc16 op next (s.withCcrh h) = (fetchSrc16 op next s).map (withCcrhSnd h) := by
  cases op with
  | imm v => rfl
  | mem ea =>
    simp only [fetchSrc16, resolveEa_withCcrh]
    cases resolveEa ea next s with
    | error e => rfl
    | ok p =>
      simp only [Except.map, withCcrhSnd, readWord_withCcrh]
      cases readWord p.2 p.1 <;> rfl

theorem fetchMovSrc8_withCcrh (h : Byte) (src : MovSrc8) (next : Word) (s : State) :
    fetchMovSrc8 src next (s.withCcrh h) = (fetchMovSrc8 src next s).map (withCcrhSnd h) := by
  cases src with
  | imm v => rfl
  | ext a => exact fetchSrc8_withCcrh h (.mem (.ext a)) next s
  | idx i => exact fetchSrc8_withCcrh h (.mem (.idx i)) next s

theorem fetchMovSrc16_withCcrh (h : Byte) (src : MovSrc16) (next : Word) (s : State) :
    fetchMovSrc16 src next (s.withCcrh h) = (fetchMovSrc16 src next s).map (withCcrhSnd h) := by
  cases src with
  | imm v => rfl
  | ext a => exact fetchSrc16_withCcrh h (.mem (.ext a)) next s
  | idx i => exact fetchSrc16_withCcrh h (.mem (.idx i)) next s

/-! ## The shapes of instruction -/

section
variable {h : Byte} {s : State}

theorem withSrc8_withCcrh {op : Src8} {f f' : Byte → State → State}
    (hf : ∀ v t, f' v (t.withCcrh h) = (f v t).withCcrh h) :
    withSrc8 op (s.withCcrh h) f' = mapNext (State.withCcrh h) (withSrc8 op s f) := by
  rw [withSrc8_eq, withSrc8_eq]
  exact complete_withCcrh (bind_eq_map_bind (fetchSrc8_withCcrh h op _ s) fun p => congrArg Except.ok (hf p.1 p.2))

theorem withSrc16_withCcrh {op : Src16} {f f' : Word → State → State}
    (hf : ∀ v t, f' v (t.withCcrh h) = (f v t).withCcrh h) :
    withSrc16 op (s.withCcrh h) f' = mapNext (State.withCcrh h) (withSrc16 op s f) := by
  rw [withSrc16_eq, withSrc16_eq]
  exact complete_withCcrh (bind_eq_map_bind (fetchSrc16_withCcrh h op _ s) fun p => congrArg Except.ok (hf p.1 p.2))

theorem storeByte_withCcrh (ea : Ea) (v : Byte) :
    storeByte ea v (s.withCcrh h) = mapNext (State.withCcrh h) (storeByte ea v s) := by
  rw [storeByte_eq, storeByte_eq]
  exact complete_withCcrh (bind_eq_map_bind (resolveEa_withCcrh h ea _ s) fun p =>
    bind_eq_map_bind (writeByte_withCcrh h p.2 p.1 v) fun _ => rfl)

theorem storeWord_withCcrh (ea : Ea) (v : Word) :
    storeWord ea v (s.withCcrh h) = mapNext (State.withCcrh h) (storeWord ea v s) := by
  rw [storeWord_eq, storeWord_eq]
  exact complete_withCcrh (bind_eq_map_bind (resolveEa_withCcrh h ea _ s) fun p =>
    bind_eq_map_bind (writeWord_withCcrh h p.2 p.1 v) fun _ => rfl)

theorem writeByteXI_withCcrh (ea : EaXI) (v : Byte) (u : FlagUpdate) :
    writeByteXI ea v u (s.withCcrh h) = mapNext (State.withCcrh h) (writeByteXI ea v u s) := by
  rw [writeByteXI_eq, writeByteXI_eq]
  exact complete_withCcrh (bind_eq_map_bind (resolveEaXI_withCcrh h ea _ s) fun p =>
    bind_eq_map_bind (writeByte_withCcrh h p.2 p.1 v) fun _ => rfl)

theorem testByteXI_withCcrh (ea : EaXI) (f : Byte → FlagUpdate) :
    testByteXI ea f (s.withCcrh h) = mapNext (State.withCcrh h) (testByteXI ea f s) := by
  rw [testByteXI_eq, testByteXI_eq]
  exact complete_withCcrh (bind_eq_map_bind (resolveEaXI_withCcrh h ea _ s) fun p =>
    bind_eq_map_bind (readByte_withCcrh h p.2 p.1) fun _ => rfl)

theorem modifyByte_withCcrh (ea : EaXI) (f : Byte → Byte × FlagUpdate) :
    modifyByte ea f (s.withCcrh h) = mapNext (State.withCcrh h) (modifyByte ea f s) := by
  rw [modifyByte_eq, modifyByte_eq]
  exact complete_withCcrh (bind_eq_map_bind (resolveEaXI_withCcrh h ea _ s) fun p =>
    bind_eq_map_bind (readByte_withCcrh h p.2 p.1) fun m =>
      bind_eq_map_bind (writeByte_withCcrh h p.2 p.1 (f m).1) fun _ => rfl)

theorem loadAddress_withCcrh {i : Idx} {f : Word → State → State}
    (hf : ∀ v t, f v (t.withCcrh h) = (f v t).withCcrh h) :
    loadAddress i (s.withCcrh h) f = mapNext (State.withCcrh h) (loadAddress i s f) := by
  rw [loadAddress_eq, loadAddress_eq]
  exact refusedUnless_withCcrh
    (complete_withCcrh (bind_eq_map_bind (resolveIdx_withCcrh h i _ s) fun p => congrArg Except.ok (hf p.1 p.2)))

theorem execMovb_withCcrh (src : MovSrc8) (dst : MovDst) :
    execMovb src dst (s.withCcrh h) = mapNext (State.withCcrh h) (execMovb src dst s) := by
  rw [execMovb_eq, execMovb_eq]
  exact refusedUnless_withCcrh (complete_withCcrh (bind_eq_map_bind (fetchMovSrc8_withCcrh h src _ s) fun p =>
    bind_eq_map_bind (resolveMovDst_withCcrh h dst _ p.2) fun q => writeByte_withCcrh h q.2 q.1 p.1))

theorem execMovw_withCcrh (src : MovSrc16) (dst : MovDst) :
    execMovw src dst (s.withCcrh h) = mapNext (State.withCcrh h) (execMovw src dst s) := by
  rw [execMovw_eq, execMovw_eq]
  exact refusedUnless_withCcrh (complete_withCcrh (bind_eq_map_bind (fetchMovSrc16_withCcrh h src _ s) fun p =>
    bind_eq_map_bind (resolveMovDst_withCcrh h dst _ p.2) fun q => writeWord_withCcrh h q.2 q.1 p.1))

theorem divide_withCcrh (n : Nat) (dst : QuotientReg) (k : DivideKind) (o : Quotient) :
    divide n dst k o (s.withCcrh h) = mapNext (State.withCcrh h) (divide n dst k o s) := by
  cases o with
  | result q r => exact finish_withCcrh (by cases dst <;> rfl)
  | byZero => exact whereUnstated_withCcrh (finish_withCcrh (by cases dst <;> rfl))
  | overflow => exact whereUnstated_withCcrh (finish_withCcrh (by cases dst <;> rfl))

/-! ## Transfers and exchanges -/

theorem get8_withCcrh (r : Reg8) : (s.withCcrh h).get8 r = s.get8 r := by cases r <;> rfl

theorem get16_withCcrh (r : Reg16) : (s.withCcrh h).get16 r = s.get16 r := by cases r <;> rfl

theorem set8_withCcrh (r : Reg8) (v : Byte) : (s.withCcrh h).set8 r v = (s.set8 r v).withCcrh h := by
  cases r <;> rfl

theorem set16_withCcrh (r : Reg16) (v : Word) : (s.withCcrh h).set16 r v = (s.set16 r v).withCcrh h := by
  cases r <;> rfl

theorem transfer_withCcrh (p q : Reg) : transfer p q (s.withCcrh h) = (transfer p q s).withCcrh h := by
  cases p <;> cases q <;> simp only [transfer, get8_withCcrh, get16_withCcrh, set8_withCcrh, set16_withCcrh]

theorem mixedExchange_withCcrh (p : Reg8) (q : Reg16) :
    mixedExchange p q (s.withCcrh h) = mapNext (State.withCcrh h) (mixedExchange p q s) := by
  refine whereUnstated_withCcrh (finish_withCcrh ?_)
  rw [set8_withCcrh, set16_withCcrh]
  rfl

theorem execExg_withCcrh (p q : Reg) :
    execExg p q (s.withCcrh h) = mapNext (State.withCcrh h) (execExg p q s) := by
  cases p with
  | r8 p =>
    cases q with
    | r8 q => exact finish_withCcrh (by rw [get8_withCcrh, get8_withCcrh, set8_withCcrh, set8_withCcrh])
    | r16 q => exact mixedExchange_withCcrh p q
  | r16 p =>
    cases q with
    | r8 q => exact mixedExchange_withCcrh q p
    | r16 q => exact finish_withCcrh (by rw [get16_withCcrh, get16_withCcrh, set16_withCcrh, set16_withCcrh])

end

/-! ## Instructions -/

/-- Every instruction but PSHCW and PULCW does the same whatever CCR_H holds, and leaves it (R31). -/
theorem exec_withCcrh (i : Instr) (s : State) (h : Byte) (hpush : i ≠ .pshcw) (hpull : i ≠ .pulcw) :
    exec i (s.withCcrh h) = mapNext (State.withCcrh h) (exec i s) := by
  cases i with
  | pshcw => exact absurd rfl hpush
  | pulcw => exact absurd rfl hpull
  | ldaa op | ldab op | adca op | adcb op | adda op | addb op | sbca op | sbcb op | suba op | subb op | cmpa op
  | cmpb op | anda op | andb op | eora op | eorb op | oraa op | orab op =>
    exact withSrc8_withCcrh fun _ _ => rfl
  | ldd op | addd op | subd op | cpd op => exact withSrc16_withCcrh fun _ _ => rfl
  | lds op | ldx op | ldy op | cps op | cpx op | cpy op =>
    exact refusedIf_withCcrh (withSrc16_withCcrh fun _ _ => rfl)
  | staa ea | stab ea => exact storeByte_withCcrh ea _
  | std ea => exact storeWord_withCcrh ea _
  | sts ea | stx ea | sty ea => exact refusedIf_withCcrh (storeWord_withCcrh ea _)
  | leas x | leax x | leay x => exact loadAddress_withCcrh fun _ _ => rfl
  | clr ea => exact writeByteXI_withCcrh ea _ _
  | tst ea => exact testByteXI_withCcrh ea _
  | dec ea | inc ea | com ea | neg ea | lsl ea | lsr ea | asl ea | asr ea | rol ea | ror ea =>
    exact modifyByte_withCcrh ea _
  | psha | pshb | pshc => exact complete_withCcrh (pushByte_withCcrh h s _)
  | pshd | pshx | pshy => exact complete_withCcrh (pushWord_withCcrh h s _)
  | pula | pulb | pulc => exact complete_withCcrh (pullByte_withCcrh fun _ _ => rfl)
  | puld | pulx | puly => exact complete_withCcrh (pullWord_withCcrh fun _ _ => rfl)
  | movb src dst => exact execMovb_withCcrh src dst
  | movw src dst => exact execMovw_withCcrh src dst
  | ediv | edivs | fdiv | idiv | idivs => exact divide_withCcrh _ _ _ _
  | tfr p q => exact finish_withCcrh (transfer_withCcrh p q)
  | exg p q => exact execExg_withCcrh p q
  | sex p q => exact finish_withCcrh (by rw [get8_withCcrh, set16_withCcrh])
  | _ => exact finish_withCcrh rfl

theorem exec_pshcw_ccrh {s t : State} (h : exec .pshcw s = .next t) : t.ccrh = s.ccrh := by
  obtain ⟨u, hu, rfl⟩ := (complete_eq_next_iff _ _ t).1 h
  obtain ⟨-, -, rfl⟩ := (pushWord_eq_ok_iff s _ u).1 hu
  rfl

/-- PULCW writes the bits of the mask alone. -/
theorem writeCcrh_getLsbD_of_mask {s : State} (v : Byte) {k : Nat} (hk : s.launch.ccrhMask.getLsbD k = false) :
    (s.writeCcrh v).ccrh.getLsbD k = s.ccrh.getLsbD k := by
  rw [State.writeCcrh_ccrh, BitVec.getLsbD_or, BitVec.getLsbD_and, BitVec.getLsbD_and, BitVec.getLsbD_not, hk]
  by_cases hlt : k < 8
  · simp [hlt]
  · simp [BitVec.getLsbD_of_ge _ _ (Nat.le_of_not_lt hlt)]

theorem exec_pulcw_ccrh {s t : State} (h : exec .pulcw s = .next t) {k : Nat}
    (hk : s.launch.ccrhMask.getLsbD k = false) : t.ccrh.getLsbD k = s.ccrh.getLsbD k := by
  obtain ⟨u, hu, rfl⟩ := (complete_eq_next_iff _ _ t).1 h
  obtain ⟨-, rfl⟩ := (pullWord_eq_ok_iff s _ u).1 hu
  exact writeCcrh_getLsbD_of_mask (s := s.setSp (s.sp + 2#16)) _ hk

end Sys2Proof.Machine

namespace Sys2Proof

open Sys2Proof.Machine Sys2Proof.Safety

/-- Settles O13: a step is one instruction's effect, whose register updates never set X. -/
theorem stepNeverSetsX : Obligations.StepNeverSetsX := by
  intro s t hx h
  obtain ⟨i, hi⟩ := step_eq_next h
  obtain ⟨u, hu, rfl⟩ := exec_next hi
  exact hu.xClear hx

/-- Settles O16: the effect of an instruction of `keepsCcr` is one that keeps CCR. -/
theorem ccrKeepersKeepCcr : Obligations.CcrKeepersKeepCcr := by
  intro i s t hk h
  obtain ⟨u, hu, rfl⟩ := exec_next h
  rw [hk] at hu
  exact hu.ccr

/-- Settles O14: `exec_withCcrh` for all but two; PSHCW stores CCR_H and PULCW writes under the mask. -/
theorem ccrhBelongsToPshcwAndPulcw : Obligations.CcrhBelongsToPshcwAndPulcw :=
  ⟨exec_withCcrh, fun _ _ h => exec_pshcw_ccrh h, fun _ _ h _ hk => exec_pulcw_ccrh h hk⟩

end Sys2Proof
end

section
/-! SUPPORT. Transfers and exchanges of registers: what the register file of R11 reads after a write, and when an
instruction that cannot stop completes with its registers, or with CCR loaded through its X rule (R30, R141 to R148). -/

namespace Sys2Proof.Machine

open Sys2Proof.Safety

/-! ## The register file -/

theorem get16_set16_same (s : State) (q : Reg16) (v : Word) : (s.set16 q v).get16 q = v := by
  cases q with
  | d => exact joinBytes_hiByte_loByte v
  | _ => rfl

theorem get16_set16_of_ne (s : State) {q r : Reg16} (v : Word) (h : r ≠ q) : (s.set16 q v).get16 r = s.get16 r := by
  cases q <;> cases r
  case d.d | x.x | y.y | sp.sp => exact absurd rfl h
  all_goals rfl

/-- A write to a 16-bit register leaves everything that is not one. -/
theorem set16_frame (s : State) (q : Reg16) (v : Word) :
    (s.set16 q v).ccr = s.ccr ∧ (s.set16 q v).ccrh = s.ccrh ∧ (s.set16 q v).mem = s.mem ∧
      (s.set16 q v).launch = s.launch ∧ (s.set16 q v).freeCount = s.freeCount := by
  cases q <;> exact ⟨rfl, rfl, rfl, rfl, rfl⟩

theorem set8_ccr_of_ne (s : State) {q : Reg8} (v : Byte) (h : q ≠ .ccr) : (s.set8 q v).ccr = s.ccr := by
  cases q with
  | ccr => exact absurd rfl h
  | _ => rfl

/-! ## Completing -/

theorem beq_zero_eq_decide {n : Nat} (v : BitVec n) : (v == 0#n) = decide (v.toNat = 0) := by
  rw [Bool.eq_iff_iff, beq_iff_eq, decide_eq_true_eq, ← BitVec.toNat_inj, BitVec.toNat_zero]

theorem nzUpdate_eq_byteRow (v : Byte) : nzUpdate v = byteRow v := by
  rw [nzUpdate, byteRow, beq_zero_eq_decide, BitVec.msb_eq_decide]

/-- WriteCCR of CCR itself changes no bit. -/
theorem writtenCcr_self (c : Byte) : writtenCcr c c = c := by
  refine BitVec.eq_of_getLsbD_eq fun k hk => ?_
  rw [writtenCcr_loaded c c k hk]
  split
  · next h => rw [h, Bool.and_self]
  · rfl

/-- An instruction that cannot stop and leaves CCR changes no flag. -/
theorem completesTo_finish_of_ccr {i : Instr} {s t : State} {n : Nat} (hl : byteLength i = n)
    (he : exec i s = finish n s t) (hc : t.ccr = s.ccr) : CompletesTo i s t {} :=
  completesTo_finish hl he hc

theorem completesLoadingCcr_finish {i : Instr} {s t : State} {v : Byte} {n : Nat} (hl : byteLength i = n)
    (he : exec i s = finish n s (t.writeCcr v)) (hc : t.ccr = s.ccr) : CompletesLoadingCcr i s t v :=
  ⟨writtenCcr t.ccr v, by rw [he, finish_eq, nextOf_eq hl]; rfl, hc ▸ writtenCcr_loaded t.ccr v⟩

/-! ## Widths -/

theorem eq_loByte {v : Byte} {w : Word} (h : v.toNat = w.toNat % 256) : v = loByte w :=
  BitVec.eq_of_toNat_eq (h.trans (loByte_toNat w).symm)

theorem eq_sext16 {v : Byte} {w : Word} (h : w.toInt = v.toInt) : w = sext16 v :=
  BitVec.eq_of_toInt_eq (h.trans (BitVec.toInt_signExtend_of_le (by decide)).symm)

/-! ## Exchanges -/

/-- The two writes of an exchange of 16-bit registers, both values read before (R145). -/
theorem get16_exchange (s : State) (p q : Reg16) :
    ((s.set16 p (s.get16 q)).set16 q (s.get16 p)).get16 p = s.get16 q := by
  by_cases h : p = q
  · subst h
    exact get16_set16_same _ _ _
  · rw [get16_set16_of_ne _ _ h, get16_set16_same]

theorem exchange_ccr_ccr (s : State) : (s.writeCcr s.ccr).writeCcr s.ccr = s := by
  simp only [State.writeCcr, writtenCcr_self]

end Sys2Proof.Machine

namespace Sys2Proof

open Sys2Proof.Machine Sys2Proof.Safety

/-- Settles O30: every transfer is one register write of the value `transfer` gives in the destination's width. -/
theorem registerTransfers : Obligations.RegisterTransfers := by
  intro s
  refine ⟨?tab, ?tba, fun p q hq => ?same8, fun p q v hq hv => ?truncate, fun p q => ?same16,
    fun p q w hw => ?extend, fun p => completesLoadingCcr_finish rfl rfl rfl, fun p v hv => ?truncateCcr⟩
  case tab => exact completesTo_finish rfl (by rw [← nzUpdate_eq_byteRow]; rfl) rfl
  case tba => exact completesTo_finish rfl (by rw [← nzUpdate_eq_byteRow]; rfl) rfl
  case same8 => exact completesTo_finish_of_ccr rfl rfl (set8_ccr_of_ne s _ hq)
  case truncate =>
    rw [eq_loByte hv]
    exact completesTo_finish_of_ccr rfl rfl (set8_ccr_of_ne s _ hq)
  case same16 => exact completesTo_finish_of_ccr rfl rfl (set16_frame s q _).1
  case extend =>
    rw [eq_sext16 hw]
    exact completesTo_finish_of_ccr rfl rfl (set16_frame s q _).1
  case truncateCcr =>
    rw [eq_loByte hv]
    exact completesLoadingCcr_finish rfl rfl rfl

/-- Settles O32: an exchange is two register writes of values read before either; of CCR with itself it is none. -/
theorem sameWidthExchange : Obligations.SameWidthExchange := by
  intro s
  refine ⟨fun p q => ?words, completesTo_finish_of_ccr rfl rfl rfl, completesTo_finish_of_ccr rfl rfl rfl,
    completesTo_finish_of_ccr rfl (congrArg (finish 2 s) (exchange_ccr_ccr s)) rfl,
    completesTo_finish_of_ccr rfl rfl rfl, completesTo_finish_of_ccr rfl rfl rfl,
    completesLoadingCcr_finish rfl rfl rfl, completesLoadingCcr_finish rfl rfl rfl,
    completesLoadingCcr_finish rfl rfl rfl, completesLoadingCcr_finish rfl rfl rfl⟩
  case words =>
    obtain ⟨hccr, hccrh, hmem, hlaunch, hfree⟩ := set16_frame s p (s.get16 q)
    obtain ⟨hccr', hccrh', hmem', hlaunch', hfree'⟩ := set16_frame (s.set16 p (s.get16 q)) q (s.get16 p)
    refine ⟨_, completesTo_finish_of_ccr rfl rfl (hccr'.trans hccr), get16_exchange s p q, get16_set16_same _ _ _,
      fun r hp hq => ?_, hccrh'.trans hccrh, hmem'.trans hmem, hlaunch'.trans hlaunch, hfree'.trans hfree⟩
    rw [get16_set16_of_ne _ _ hq, get16_set16_of_ne _ _ hp]

end Sys2Proof
end

section
/-! SUPPORT. The divides: which of their ends (R296) the operands give, and how a divide without a stated result is
refused or completes. -/

namespace Sys2Proof.Machine

open Sys2Proof.Safety

/-! ## The five divides -/

/-- `i` divides in state `s`: its quotient's register, its row of R29, and how it ends (R300 to R304). -/
inductive Divides (s : State) : Instr → QuotientReg → DivideKind → Quotient → Prop where
  | ediv : Divides s .ediv .y .long (divideUnsigned s.ydNat s.x.toNat)
  | edivs : Divides s .edivs .y .long (divideSigned s.ydInt s.x.toInt)
  | fdiv : Divides s .fdiv .x .fractional (divideUnsigned (s.d.toNat * 65536) s.x.toNat)
  | idiv : Divides s .idiv .x .integer (divideUnsigned s.d.toNat s.x.toNat)
  | idivs : Divides s .idivs .x .long (divideSigned s.d.toInt s.x.toInt)

theorem Divides.exec_eq {s : State} {i : Instr} {dst : QuotientReg} {k : DivideKind} {o : Quotient}
    (h : Divides s i dst k o) : exec i s = divide (byteLength i) dst k o s := by
  cases h <;> rfl

theorem Divides.of_end {s : State} {i : Instr} {dst : QuotientReg} {k : DivideKind} {o o' : Quotient}
    (h : Divides s i dst k o) (ho : o = o') : Divides s i dst k o' := ho ▸ h

/-! ## How a division ends -/

theorem divideUnsigned_zero (n : Nat) : divideUnsigned n 0 = .byZero := rfl

theorem divideSigned_zero (n : Int) : divideSigned n 0 = .byZero := rfl

theorem divideUnsigned_overflow {n d : Nat} (hd : d ≠ 0) (h : 65536 * d ≤ n) : divideUnsigned n d = .overflow := by
  rw [divideUnsigned, if_neg hd, if_pos ((Nat.le_div_iff_mul_le (Nat.pos_of_ne_zero hd)).2 h)]

theorem divideSigned_overflow {n d : Int} (hd : d ≠ 0) (h : Int.tdiv n d < -32768 ∨ 32767 < Int.tdiv n d) :
    divideSigned n d = .overflow := by
  rw [divideSigned, if_neg hd, if_pos h]

/-- The quotient rounded toward zero leaves a remainder smaller than the divisor, of the dividend's sign (R293). -/
theorem tdiv_remainder {n d : Int} (hd : d ≠ 0) :
    (n - Int.tdiv n d * d).natAbs < d.natAbs ∧ 0 ≤ (n - Int.tdiv n d * d) * n := by
  have hr : n - Int.tdiv n d * d = Int.tmod n d := by rw [Int.tmod_def, Int.mul_comm]
  rw [hr]
  refine ⟨Int.natAbs_tmod n d ▸ Nat.mod_lt _ (Int.natAbs_pos.2 hd), ?_⟩
  rcases Int.le_total 0 n with hn | hn
  · exact Int.mul_nonneg (Int.tmod_nonneg d hn) hn
  · refine Int.mul_nonneg_of_nonpos_of_nonpos ?_ hn
    have hneg := Int.tmod_nonneg d (Int.neg_nonneg.2 hn)
    rw [Int.neg_tmod] at hneg
    omega

/-- A signed division with no 16-bit quotient overflows. -/
theorem divideSigned_overflow_of_no_quotient {n d : Int} (hd : d ≠ 0)
    (h : ¬∃ q : Int, -32768 ≤ q ∧ q ≤ 32767 ∧ (n - q * d).natAbs < d.natAbs ∧ 0 ≤ (n - q * d) * n) :
    divideSigned n d = .overflow := by
  refine divideSigned_overflow hd ?_
  by_contra hfits
  obtain ⟨hsmall, hsign⟩ := tdiv_remainder (n := n) hd
  exact h ⟨Int.tdiv n d, by omega, by omega, hsmall, hsign⟩

theorem State.ydInt_eq (s : State) : s.ydInt = s.y.toInt * 65536 + dNat s := by
  rw [State.ydInt, BitVec.toInt_append, State.d_toNat, Int.mul_comm]
  rfl

theorem toInt_eq_zero_iff (v : Word) : v.toInt = 0 ↔ v.toNat = 0 := by
  rw [BitVec.toInt_eq_toNat_cond]
  have := v.isLt
  omega

/-- Every divide by zero ends so (R296). -/
theorem Divides.byZero {s : State} {i : Instr} (hx : s.x.toNat = 0)
    (hi : i ∈ [Instr.ediv, .edivs, .fdiv, .idiv, .idivs]) : ∃ dst k, Divides s i dst k .byZero := by
  have hu : ∀ n, divideUnsigned n s.x.toNat = .byZero := fun n => hx ▸ divideUnsigned_zero n
  have hs : ∀ n, divideSigned n s.x.toInt = .byZero := fun n => (toInt_eq_zero_iff s.x).2 hx ▸ divideSigned_zero n
  simp only [List.mem_cons, List.not_mem_nil, or_false] at hi
  rcases hi with rfl | rfl | rfl | rfl | rfl
  · exact ⟨_, _, Divides.ediv.of_end (hu _)⟩
  · exact ⟨_, _, Divides.edivs.of_end (hs _)⟩
  · exact ⟨_, _, Divides.fdiv.of_end (hu _)⟩
  · exact ⟨_, _, Divides.idiv.of_end (hu _)⟩
  · exact ⟨_, _, Divides.idivs.of_end (hs _)⟩

theorem Divides.ediv_overflow {s : State} (hx : s.x.toNat ≠ 0) (h : s.x.toNat ≤ s.y.toNat) :
    Divides s .ediv .y .long .overflow :=
  Divides.ediv.of_end (divideUnsigned_overflow hx (by rw [State.ydNat]; omega))

theorem Divides.fdiv_overflow {s : State} (hx : s.x.toNat ≠ 0) (h : s.x.toNat ≤ dNat s) :
    Divides s .fdiv .x .fractional .overflow :=
  Divides.fdiv.of_end (divideUnsigned_overflow hx (by rw [State.d_toNat]; omega))

/-- The one overflow of IDIVS: -32768 by -1. -/
theorem Divides.idivs_overflow {s : State} (hd : dNat s = 32768) (hx : s.x.toNat = 65535) :
    Divides s .idivs .x .long .overflow := by
  have hd' : s.d.toInt = -32768 := by rw [BitVec.toInt_eq_toNat_cond, State.d_toNat, hd]; rfl
  have hx' : s.x.toInt = -1 := by rw [BitVec.toInt_eq_toNat_cond, hx]; rfl
  exact Divides.idivs.of_end (by rw [hd', hx']; rfl)

theorem Divides.edivs_overflow {s : State} (hx : s.x.toNat ≠ 0)
    (h : ¬∃ q : Int, -32768 ≤ q ∧ q ≤ 32767 ∧
      (s.y.toInt * 65536 + dNat s - q * s.x.toInt).natAbs < s.x.toInt.natAbs ∧
      0 ≤ (s.y.toInt * 65536 + dNat s - q * s.x.toInt) * (s.y.toInt * 65536 + dNat s)) :
    Divides s .edivs .y .long .overflow := by
  rw [← State.ydInt_eq] at h
  exact Divides.edivs.of_end (divideSigned_overflow_of_no_quotient (mt (toInt_eq_zero_iff s.x).1 hx) h)

/-! ## A divide without a stated result -/

/-- The end of a divide without a stated result: by zero, or with an overflow. -/
def unstatedEnd (byZero : Bool) : Quotient := if byZero then .byZero else .overflow

/-- The flags of such an end. -/
def unstatedUpdate (byZero : Bool) (k : DivideKind) (q w : Word) : FlagUpdate :=
  if byZero then zeroDivisorUpdate k q w else overflowUpdate k w

theorem divide_unstated_refused {s : State} (hs : s.launch.refuseUnstated = true) (n : Nat) (dst : QuotientReg)
    (k : DivideKind) (byZero : Bool) :
    divide n dst k (unstatedEnd byZero) s = .refused (if byZero then .divideByZero else .divideOverflow) := by
  cases byZero <;> exact if_pos hs

theorem divide_unstated_run {s : State} (hs : s.launch.refuseUnstated = false) (n : Nat) (dst : QuotientReg)
    (k : DivideKind) (byZero : Bool) : divide n dst k (unstatedEnd byZero) s =
      finish n s ((freeQuotient dst s).setFlags (unstatedUpdate byZero k (s.free 0) (s.free 2))) := by
  cases byZero <;> exact if_neg (hs ▸ Bool.false_ne_true)

theorem freeQuotient_ccr (dst : QuotientReg) (s : State) : (freeQuotient dst s).ccr = s.ccr := by
  cases dst <;> rfl

/-- The quotient's free value goes to Y for EDIV and EDIVS, to X for the others. -/
theorem Divides.freeQuotient_eq {s : State} {i : Instr} {dst : QuotientReg} {k : DivideKind} {o : Quotient}
    (h : Divides s i dst k o) : freeQuotient dst s =
      ({ s with y := if i = Instr.ediv ∨ i = Instr.edivs then s.free 0 else s.y,
                x := if i = Instr.ediv ∨ i = Instr.edivs then s.x else s.free 0,
                freeCount := s.freeCount + 3 } : State).setD (s.free 1) := by
  cases h <;> rfl

/-- The row of such a divide: only IDIV and FDIV keep N, and V and Z are fixed where R29 and R295 fix them. -/
theorem Divides.unstatedUpdate_row {s : State} {i : Instr} {dst : QuotientReg} {k : DivideKind} {o : Quotient}
    {byZero : Bool} (h : Divides s i dst k o) (hidiv : i = .idiv → byZero = true) (q w : Word) :
    ∃ n z v : Bool, (byZero = false ∨ i = .fdiv → v = true) ∧ (i = .idiv → v = false) ∧
      (byZero = true → i = .idiv ∨ i = .fdiv → z = decide (q.toNat = 0)) ∧
      unstatedUpdate byZero k q w =
        { n := if i = .idiv ∨ i = .fdiv then none else some n, z := some z, v := some v, c := some byZero } := by
  cases byZero with
  | false =>
    refine ⟨w.getLsbD 3, w.getLsbD 2, true, fun _ => rfl, fun hi => absurd (hidiv hi) Bool.false_ne_true, nofun, ?_⟩
    cases h
    case idiv => exact absurd (hidiv rfl) Bool.false_ne_true
    all_goals rfl
  | true =>
    cases h
    case fdiv => exact ⟨false, q == 0#16, true, fun _ => rfl, nofun, fun _ _ => beq_zero_eq_decide q, rfl⟩
    case idiv => exact ⟨false, q == 0#16, false, by simp, fun _ => rfl, fun _ _ => beq_zero_eq_decide q, rfl⟩
    all_goals exact ⟨w.getLsbD 3, w.getLsbD 2, w.getLsbD 1, by simp, nofun, by simp, rfl⟩

end Sys2Proof.Machine

namespace Sys2Proof

open Sys2Proof.Machine Sys2Proof.Safety

/-- Settles O56: such a divide ends by zero or with an overflow; then it is refused, or takes free values. -/
theorem unstatedDivisions : Obligations.UnstatedDivisions := by
  intro s i byZero hcase
  obtain ⟨dst, k, hi, hidiv⟩ : ∃ dst k, Divides s i dst k (unstatedEnd byZero) ∧ (i = .idiv → byZero = true) := by
    rcases hcase with ⟨rfl, hx, hi⟩ | ⟨rfl, hx, ⟨rfl, h⟩ | ⟨rfl, h⟩ | ⟨rfl, hd, hx'⟩ | ⟨rfl, h⟩⟩
    · obtain ⟨dst, k, hdiv⟩ := Divides.byZero hx hi
      exact ⟨dst, k, hdiv, fun _ => rfl⟩
    · exact ⟨_, _, .ediv_overflow hx h, nofun⟩
    · exact ⟨_, _, .fdiv_overflow hx h, nofun⟩
    · exact ⟨_, _, .idivs_overflow hd hx', nofun⟩
    · exact ⟨_, _, .edivs_overflow hx h, nofun⟩
  refine ⟨fun hs => by rw [hi.exec_eq, divide_unstated_refused hs], fun hs => ?_⟩
  obtain ⟨n, z, v, hv, hv', hz, hrow⟩ := hi.unstatedUpdate_row hidiv (s.free 0) (s.free 2)
  refine ⟨s.free 0, s.free 1, n, z, v, hv, hv', hz, ?_⟩
  rw [← hi.freeQuotient_eq, ← hrow]
  exact completesTo_finish rfl (hi.exec_eq.trans (divide_unstated_run hs _ _ _ _)) (freeQuotient_ccr dst s)

end Sys2Proof
end

section
/-! SUPPORT. The accesses to memory by the outcome each has (R51, R52, R59, R63, R374), and what memory a completing
instruction leaves: canonical memory, and all of it for the instructions of R56 that write none. -/

namespace Sys2Proof.Machine

open Sys2Proof.Safety

/-! ## Outcomes of an access -/

section
variable {s : State} {a : Word}

theorem readByte_of_admitted (h : s.launch.admits a = true) : readByte s a = .ok (s.byteAt a) :=
  (readByte_eq_ok_iff s a _).2 ⟨h, rfl⟩

theorem readByte_of_not_admitted (h : s.launch.admits a = false) : readByte s a = .error (.fault .stuck) := by
  rw [readByte, h, if_neg Bool.false_ne_true]

theorem readWord_of_readable (h : Readable16 s a) :
    readWord s a = .ok (joinBytes (s.byteAt a) (s.byteAt (a + 1#16))) :=
  (readWord_eq_ok_iff s a _).2 ⟨h, rfl⟩

theorem admits_and_of_not_readable (h : ¬Readable16 s a) :
    (s.launch.admits a && s.launch.admits (a + 1#16)) = false := by
  rwa [← Bool.not_eq_true, Bool.and_eq_true]

theorem readWord_of_not_readable (h : ¬Readable16 s a) : readWord s a = .error (.fault .stuck) := by
  rw [readWord, admits_and_of_not_readable h, if_neg Bool.false_ne_true]

theorem writeByte_of_writable (v : Byte) (h : Writable s a) : writeByte s a v = .ok (s.putByte a v) :=
  (writeByte_eq_ok_iff s a v _).2 ⟨h.1, h.2, rfl⟩

theorem writeByte_of_not_admitted (v : Byte) (h : s.launch.admits a = false) :
    writeByte s a v = .error (.fault .stuck) := by
  rw [writeByte, h, if_neg Bool.false_ne_true]

theorem writeByte_of_inCode (v : Byte) (h : s.launch.admits a = true) (hc : s.launch.inCode a = true) :
    writeByte s a v = .error (.refused .writeToCode) := by
  rw [writeByte, if_pos h, if_pos hc]

theorem writeWord_of_writable (v : Word) (h : Writable16 s a) :
    writeWord s a v = .ok ((s.putByte a (hiByte v)).putByte (a + 1#16) (loByte v)) :=
  (writeWord_eq_ok_iff s a v _).2 ⟨⟨h.1.1, h.2.1⟩, ⟨h.1.2, h.2.2⟩, rfl⟩

theorem writeWord_of_not_readable (v : Word) (h : ¬Readable16 s a) : writeWord s a v = .error (.fault .stuck) := by
  rw [writeWord, admits_and_of_not_readable h, if_neg Bool.false_ne_true]

theorem writeWord_of_inCode (v : Word) (h : Readable16 s a)
    (hc : s.launch.inCode a = true ∨ s.launch.inCode (a + 1#16) = true) :
    writeWord s a v = .error (.refused .writeToCode) := by
  rw [writeWord, h.1, h.2, if_pos (Bool.and_self true), if_pos (by rwa [Bool.or_eq_true])]

end

/-- The bytes after a word is put at `a`, the address after 0xFFFF being 0 (R52, R58). -/
theorem putWord_byteAt (s : State) (a b v : Word) :
    ((s.putByte a (hiByte v)).putByte (a + 1#16) (loByte v)).byteAt b =
      if b = a then hiByte v else if b = a + 1#16 then loByte v else s.byteAt b := by
  have hne : a ≠ a + 1#16 := by bv_omega
  simp only [State.putByte_byteAt]
  by_cases hb : b = a
  · rw [if_pos hb, if_pos hb, if_neg (hb ▸ hne)]
  · rw [if_neg hb, if_neg hb]

theorem wordNat_eq (s : State) (a : Word) :
    (joinBytes (s.byteAt a) (s.byteAt (a + 1#16))).toNat = wordNat s a := joinBytes_toNat _ _

end Sys2Proof.Machine

namespace Sys2Proof

open Sys2Proof.Machine Sys2Proof.Safety

/-- Settles O9: a step is one instruction's effect, and every write of an effect keeps the canonical form. -/
theorem stepKeepsMemoryCanonical : Obligations.StepKeepsMemoryCanonical := by
  intro s t hs h
  obtain ⟨i, hi⟩ := step_eq_next h
  obtain ⟨u, hu, rfl⟩ := exec_next hi
  exact hu.wf hs

/-- Settles O15: the effect of an instruction outside `writesMemory` holds no write. -/
theorem nonWritersKeepMemory : Obligations.NonWritersKeepMemory := by
  intro i s t hw h
  obtain ⟨u, hu, rfl⟩ := exec_next h
  rw [hw] at hu
  exact hu.mem

/-- Settles O23: a word is joined from, and put as, its high byte at `a` and its low byte at `a + 1`. -/
theorem wordsAreBigEndian : Obligations.WordsAreBigEndian := by
  intro s a v hr
  have hne : a + 1#16 ≠ a := by bv_omega
  refine ⟨⟨_, readWord_of_readable hr, joinBytes_toNat _ _⟩,
    fun hw => ⟨_, writeWord_of_writable v hw, ?hi, ?lo, ?readBack, ?frame⟩⟩
  case hi => rw [putWord_byteAt, if_pos rfl, hiByte_toNat]
  case lo => rw [putWord_byteAt, if_neg hne, if_pos rfl, loByte_toNat]
  case readBack =>
    have hr' : Readable16 ((s.putByte a (hiByte v)).putByte (a + 1#16) (loByte v)) a := hr
    rw [readWord_of_readable hr', putWord_byteAt, if_pos rfl, putWord_byteAt, if_neg hne, if_pos rfl,
      joinBytes_hiByte_loByte]
  case frame =>
    intro b hb hb'
    rw [putWord_byteAt, if_neg hb, if_neg hb']

/-- Settles O24: each access by its outcome, which the admitted and the text addresses fix. -/
theorem accessesAreWhole : Obligations.AccessesAreWhole := by
  intro s a v b
  refine ⟨fun h => ⟨readByte_of_not_admitted h, writeByte_of_not_admitted b h⟩,
    fun h => ⟨readByte_of_admitted h, writeByte_of_inCode b h, fun hc => ?_⟩,
    fun h => ⟨readWord_of_not_readable h, writeWord_of_not_readable v h⟩,
    fun h => ⟨⟨_, readWord_of_readable h⟩, writeWord_of_inCode v h, fun hc hc' => ?_⟩⟩
  · exact ⟨_, writeByte_of_writable b ⟨h, hc⟩, fun c => State.putByte_byteAt s a c b⟩
  · exact ⟨_, writeWord_of_writable v ⟨⟨h.1, hc⟩, h.2, hc'⟩⟩

end Sys2Proof
end

section
/-! SUPPORT. Effective addresses by numbers (R81 to R90), the pointer of the indirect modes, and the fetch of an operand
from its address (R51, R52, R80). -/

namespace Sys2Proof.Machine

open Sys2Proof.Safety

/-! ## Address arithmetic -/

/-- An offset word moves an address by its signed value, modulo 2^16 (R58). -/
theorem add_toNat_eq_toInt (b w : Word) : ((b + w).toNat : Int) = (b.toNat + w.toInt) % 65536 := by
  have hb := b.isLt
  have hw := w.isLt
  rw [BitVec.toInt_eq_toNat_cond, BitVec.toNat_add]
  omega

theorem sext16_toInt {n : Nat} (v : BitVec n) (hn : n ≤ 16) : (sext16 v).toInt = v.toInt :=
  BitVec.toInt_signExtend_of_le hn

theorem add_sext16_toNat {n : Nat} (b : Word) (v : BitVec n) (hn : n ≤ 16) :
    ((b + sext16 v).toNat : Int) = (b.toNat + v.toInt) % 65536 := by
  rw [add_toNat_eq_toInt, sext16_toInt v hn]

theorem autoStep_toInt (n : BitVec 4) :
    (autoStep n).toInt = if n.toNat ≤ 7 then (n.toNat : Int) + 1 else n.toNat - 16 := by
  revert n
  decide

theorem State.base_eq (s : State) (next : Word) (r : Base) : s.base next r = baseValue s next r := by
  cases r <;> rfl

theorem State.autoBase_eq (s : State) (r : AutoBase) : s.autoBase r = autoValue s r := by
  cases r <;> rfl

/-! ## Indirect modes -/

/-- Where an indexed operand's pointer is, for the two modes that have one (R89, R90). -/
def pointerOf (s : State) (next : Word) : Idx → Option Word
  | .indN16 r n => some (s.base next r + n)
  | .indD r => some (s.base next r + s.d)
  | _ => none

theorem resolveIdx_of_pointer {s : State} {next p : Word} {i : Idx} (h : pointerOf s next i = some p) :
    resolveIdx i next s = (readWord s p).map fun a => (a, s) := by
  cases i with
  | indN16 r n =>
    obtain rfl := Option.some.inj h
    rw [resolveIdx]
    cases readWord s (s.base next r + n) <;> rfl
  | indD r =>
    obtain rfl := Option.some.inj h
    rw [resolveIdx]
    cases readWord s (s.base next r + s.d) <;> rfl
  | _ => cases h

/-! ## Fetch -/

section
variable {s s1 : State} {next a : Word} {ea : Ea}

theorem fetchSrc8_of_error {e : Stop} (h : resolveEa ea next s = .error e) :
    fetchSrc8 (.mem ea) next s = .error (.fault .stuck) := by
  rw [fetchSrc8, h]
  exact congrArg Except.error (resolveEa_error h)

theorem fetchSrc16_of_error {e : Stop} (h : resolveEa ea next s = .error e) :
    fetchSrc16 (.mem ea) next s = .error (.fault .stuck) := by
  rw [fetchSrc16, h]
  exact congrArg Except.error (resolveEa_error h)

theorem fetchSrc8_of_resolveEa (h : resolveEa ea next s = .ok (a, s1)) :
    fetchSrc8 (.mem ea) next s = (readByte s1 a).map fun v => (v, s1) := by
  rw [fetchSrc8, h]
  cases hr : readByte s1 a <;> simp only [hr] <;> rfl

theorem fetchSrc16_of_resolveEa (h : resolveEa ea next s = .ok (a, s1)) :
    fetchSrc16 (.mem ea) next s = (readWord s1 a).map fun v => (v, s1) := by
  rw [fetchSrc16, h]
  cases hr : readWord s1 a <;> simp only [hr] <;> rfl

end

/-- An operand's automatic step changes neither memory nor what of it may be accessed. -/
theorem SameButIndex.readByte {s s1 : State} (h : SameButIndex s s1) (a : Word) : readByte s1 a = readByte s a := by
  unfold Machine.readByte State.byteAt
  rw [h.mem, h.launch]

theorem SameButIndex.readWord {s s1 : State} (h : SameButIndex s s1) (a : Word) : readWord s1 a = readWord s a := by
  unfold Machine.readWord State.byteAt
  rw [h.mem, h.launch]

end Sys2Proof.Machine

namespace Sys2Proof

open Sys2Proof.Machine Sys2Proof.Safety

/-- Settles O20: each mode adds its offset to its base; only the automatic one changes the state. -/
theorem addressesWithoutMemory : Obligations.AddressesWithoutMemory := by
  intro s next r
  rw [← State.base_eq]
  refine ⟨fun dd => ⟨_, rfl, ?dir⟩, fun _ => ⟨rfl, rfl, rfl⟩, fun _ => ⟨rfl, rfl, rfl⟩,
    fun n => ⟨_, rfl, add_sext16_toNat _ n (by decide)⟩, fun n => ⟨_, rfl, add_sext16_toNat _ n (by decide)⟩,
    fun n => ⟨_, rfl, add_toNat_eq_toInt _ n⟩, fun o => ⟨_, rfl, ?acc⟩, fun ar post n => ?auto⟩
  case dir => rw [joinBytes_toNat, BitVec.toNat_ofNat, Nat.zero_mod, Nat.zero_mul, Nat.zero_add]
  case acc =>
    have hzext : ∀ v : Byte, (zext16 v).toNat = v.toNat := fun v => BitVec.toNat_setWidth_of_le (by decide)
    rw [BitVec.toNat_add]
    cases o with
    | a => rw [State.accOffset, hzext]
    | b => rw [State.accOffset, hzext]
    | d => rw [State.accOffset, State.d_toNat]
  case auto =>
    rw [← State.autoBase_eq]
    refine ⟨s.autoBase ar + autoStep n, _, rfl, ?_, ?_⟩
    · rw [← autoStep_toInt, add_toNat_eq_toInt]
    · cases ar <;> rfl

/-- Settles O21: an indirect mode reads its pointer, which is at base plus offset, as a word. -/
theorem indirectAddresses : Obligations.IndirectAddresses := by
  intro s next r n ptr i hi
  have hp : pointerOf s next i = some ptr := by
    rcases hi with ⟨rfl, h⟩ | ⟨rfl, h⟩
    · rw [← State.base_eq, ← add_toNat_eq_toInt, Int.natCast_inj, BitVec.toNat_inj] at h
      rw [h, pointerOf]
    · rw [← State.base_eq, ← State.d_toNat, ← BitVec.toNat_add, BitVec.toNat_inj] at h
      rw [h, pointerOf]
  rw [resolveIdx_of_pointer hp]
  refine ⟨fun h => ⟨_, by rw [readWord_of_readable h]; rfl, wordNat_eq s ptr⟩, fun h => ?_⟩
  rw [readWord_of_not_readable h]
  rfl

/-- Settles O22: the operand at an address is a read there, which the operand's step does not affect. -/
theorem operandFetch : Obligations.OperandFetch := by
  intro s s1 next a ea
  refine ⟨fun _ => ⟨rfl, rfl⟩, fun _ => ⟨rfl, rfl⟩, fun _ => ⟨rfl, rfl⟩, fun _ => ⟨rfl, rfl⟩,
    fun _ h => ⟨fetchSrc8_of_error h, fetchSrc16_of_error h⟩, fun h => ?_⟩
  have same := resolveEa_same h
  rw [fetchSrc8_of_resolveEa h, fetchSrc16_of_resolveEa h, same.readByte, same.readWord]
  refine ⟨same.mem, same.launch, fun h => ?_, fun h => ?_, fun h => ⟨_, ?_, wordNat_eq s a⟩, fun h => ?_⟩
  · rw [readByte_of_admitted h]
    rfl
  · rw [readByte_of_not_admitted h]
    rfl
  · rw [readWord_of_readable h]
    rfl
  · rw [readWord_of_not_readable h]
    rfl

end Sys2Proof
end

section
/-! SUPPORT. The instructions that read a source operand and write no memory: loads, logic and compares, each `withSrc8`
or `withSrc16` with a row of R111, R312 or R253. -/

namespace Sys2Proof.Machine

open Sys2Proof.Safety

theorem nzUpdate_eq_wordRow (v : Word) : nzUpdate v = wordRow v := by
  rw [nzUpdate, wordRow, beq_zero_eq_decide, BitVec.msb_eq_decide]

/-- An operand pattern that R96 does not shut out leaves the instruction its run. -/
theorem refusedIf_of_false {c : Bool} (h : c = false) (name : Refusal) (o : Host.Outcome State Fault Refusal) :
    (if c then .refused name else o) = o := by
  rw [h, if_neg Bool.false_ne_true]

/-! ## The registers an operand does not step -/

theorem autoBase_setAutoBase_of_ne (s : State) {q r : AutoBase} (v : Word) (h : q ≠ r) :
    (s.setAutoBase q v).autoBase r = s.autoBase r := by
  cases q <;> cases r
  case x.x | y.y | sp.sp => exact absurd rfl h
  all_goals rfl

theorem resolveIdx_autoBase {i : Idx} {next : Word} {s s1 : State} {a : Word} {r : AutoBase}
    (h : resolveIdx i next s = .ok (a, s1)) (hr : i.stepsBase r = false) : s1.autoBase r = s.autoBase r := by
  rcases resolveIdx_state h with rfl | ⟨q, post, n, rfl, rfl⟩
  · rfl
  · exact autoBase_setAutoBase_of_ne s _ (beq_eq_false_iff_ne.1 hr)

theorem resolveEa_autoBase {ea : Ea} {next : Word} {s s1 : State} {a : Word} {r : AutoBase}
    (h : resolveEa ea next s = .ok (a, s1)) (hr : ea.stepsBase r = false) : s1.autoBase r = s.autoBase r := by
  cases ea with
  | idx i => exact resolveIdx_autoBase h hr
  | _ => cases h; rfl

theorem fetchSrc16_autoBase {op : Src16} {next : Word} {s s1 : State} {v : Word} {r : AutoBase}
    (h : fetchSrc16 op next s = .ok (v, s1)) (hr : op.stepsBase r = false) : s1.autoBase r = s.autoBase r := by
  rcases fetchSrc16_eq_ok h with ⟨-, rfl⟩ | ⟨ea, a, rfl, ha, -⟩
  · rfl
  · exact resolveEa_autoBase ha hr

/-! ## Loads -/

theorem loadA_eq (s : State) (v : Byte) :
    (s.setA v).setFlags (nzUpdate v) = State.setFlags { s with a := v } (byteRow v) := by
  rw [nzUpdate_eq_byteRow]
  rfl

theorem loadB_eq (s : State) (v : Byte) :
    (s.setB v).setFlags (nzUpdate v) = State.setFlags { s with b := v } (byteRow v) := by
  rw [nzUpdate_eq_byteRow]
  rfl

/-! ## Logic -/

/-- A logic instruction on A: `A <- op(A, opr8)` with N and Z of the result (R312). -/
theorem completesTo_logicA {i : Instr} {op : Src8} {s s1 : State} {v r : Byte} (f : Byte → Byte → Byte)
    (hl : byteLength i = 1 + src8Size op)
    (he : exec i s = withSrc8 op s fun v t => (t.setA (f t.a v)).setFlags (nzUpdate (f t.a v)))
    (hr : Reads8 op s v s1) (hf : r = f s.a v) : CompletesTo i s { s1 with a := r } (byteRow r) :=
  completesTo_withSrc8 hl he hr (by rw [(fetchSrc8_same hr).a, ← hf, loadA_eq]) rfl

/-- A logic instruction on B. -/
theorem completesTo_logicB {i : Instr} {op : Src8} {s s1 : State} {v r : Byte} (f : Byte → Byte → Byte)
    (hl : byteLength i = 1 + src8Size op)
    (he : exec i s = withSrc8 op s fun v t => (t.setB (f t.b v)).setFlags (nzUpdate (f t.b v)))
    (hr : Reads8 op s v s1) (hf : r = f s.b v) : CompletesTo i s { s1 with b := r } (byteRow r) :=
  completesTo_withSrc8 hl he hr (by rw [(fetchSrc8_same hr).b, ← hf, loadB_eq]) rfl

theorem eq_and_of_bits {r a v : Byte} (h : ∀ k, k < 8 → r.getLsbD k = (a.getLsbD k && v.getLsbD k)) : r = a &&& v :=
  BitVec.eq_of_getLsbD_eq fun k hk => (h k hk).trans BitVec.getLsbD_and.symm

theorem eq_or_of_bits {r a v : Byte} (h : ∀ k, k < 8 → r.getLsbD k = (a.getLsbD k || v.getLsbD k)) : r = a ||| v :=
  BitVec.eq_of_getLsbD_eq fun k hk => (h k hk).trans BitVec.getLsbD_or.symm

theorem eq_xor_of_bits {r a v : Byte} (h : ∀ k, k < 8 → r.getLsbD k = (a.getLsbD k != v.getLsbD k)) : r = a ^^^ v :=
  BitVec.eq_of_getLsbD_eq fun k hk => (h k hk).trans BitVec.getLsbD_xor.symm

/-! ## Compares -/

/-- A compare of an 8-bit register whose value is `a`. -/
theorem completesTo_compare8 {i : Instr} {op : Src8} {s s1 : State} {a v : Byte} {reg : State → Byte}
    (hl : byteLength i = 1 + src8Size op)
    (he : exec i s = withSrc8 op s fun v t => t.setFlags (subN (reg t) v false).update)
    (hr : Reads8 op s v s1) (ha : reg s1 = a) : CompletesTo i s s1 (diffRow8 a v 0) :=
  completesTo_withSrc8 hl he hr (by rw [ha, subN_update8]; rfl) rfl

/-- A compare of a 16-bit register whose value is `a`. -/
theorem completesTo_compare16 {i : Instr} {op : Src16} {s s1 : State} {a v : Word} {reg : State → Word}
    (hl : byteLength i = 1 + src16Size op)
    (he : exec i s = withSrc16 op s fun v t => t.setFlags (subN (reg t) v false).update)
    (hr : Reads16 op s v s1) (ha : reg s1 = a) : CompletesTo i s s1 (diffRow16 a v) :=
  completesTo_withSrc16 hl he hr (by rw [ha, subN_update16]) rfl

end Sys2Proof.Machine

namespace Sys2Proof

open Sys2Proof.Machine Sys2Proof.Safety

/-- Settles O25: a load is its operand put in the accumulator with the row of R111. -/
theorem byteLoads : Obligations.ByteLoads := by
  intro op s
  refine ⟨fun s1 v hr => ⟨?_, ?_⟩, fun hu i hi => ?_⟩
  · exact completesTo_withSrc8 (encodeSrc8_length _ _ _ _ op) rfl hr (loadA_eq s1 v) rfl
  · exact completesTo_withSrc8 (encodeSrc8_length _ _ _ _ op) rfl hr (loadB_eq s1 v) rfl
  · simp only [List.mem_cons, List.not_mem_nil, or_false] at hi
    rcases hi with rfl | rfl <;> exact withSrc8_of_unreadable hu _

/-- Settles O26: the forms of R96 apart, a load is its operand put in the register with the row of R111. -/
theorem wordLoads : Obligations.WordLoads := by
  intro op s
  refine ⟨fun s1 v hr => ?_, fun hu => ⟨withSrc16_of_unreadable hu _, fun h => ?_, fun h => ?_, fun h => ?_⟩⟩
  · have hl : ∀ i d e m, (encodeSrc16 i d e m op).length = 1 + src16Size op :=
      fun i d e m => encodeSrc16_length i d e m op
    rw [← nzUpdate_eq_wordRow, ← State.setD_eq]
    exact ⟨completesTo_withSrc16 (hl _ _ _ _) rfl hr rfl rfl,
      fun h => completesTo_withSrc16 (hl _ _ _ _) (refusedIf_of_false h _ _) hr rfl rfl,
      fun h => completesTo_withSrc16 (hl _ _ _ _) (refusedIf_of_false h _ _) hr rfl rfl,
      fun h => completesTo_withSrc16 (hl _ _ _ _) (refusedIf_of_false h _ _) hr rfl rfl⟩
  all_goals exact (refusedIf_of_false h _ _).trans (withSrc16_of_unreadable hu _)

/-- Settles O57: the result's bits determine it, and it goes to the accumulator with the row of R312. -/
theorem logicOnAccumulators : Obligations.LogicOnAccumulators := by
  intro op s
  have hl : ∀ i d e m, (encodeSrc8 i d e m op).length = 1 + src8Size op := fun i d e m => encodeSrc8_length i d e m op
  refine ⟨fun s1 v r hr => ⟨fun h => ?anda, fun h => ?andb, fun h => ?eora, fun h => ?eorb, fun h => ?oraa,
    fun h => ?orab⟩, fun hu i hi => ?_⟩
  case anda => exact completesTo_logicA (· &&& ·) (hl _ _ _ _) rfl hr (eq_and_of_bits h)
  case andb => exact completesTo_logicB (· &&& ·) (hl _ _ _ _) rfl hr (eq_and_of_bits h)
  case eora => exact completesTo_logicA (· ^^^ ·) (hl _ _ _ _) rfl hr (eq_xor_of_bits h)
  case eorb => exact completesTo_logicB (· ^^^ ·) (hl _ _ _ _) rfl hr (eq_xor_of_bits h)
  case oraa => exact completesTo_logicA (· ||| ·) (hl _ _ _ _) rfl hr (eq_or_of_bits h)
  case orab => exact completesTo_logicB (· ||| ·) (hl _ _ _ _) rfl hr (eq_or_of_bits h)
  simp only [List.mem_cons, List.not_mem_nil, or_false] at hi
  rcases hi with rfl | rfl | rfl | rfl | rfl | rfl <;> exact withSrc8_of_unreadable hu _

/-- Settles O47: a compare writes the row of the difference with the register, which its operand leaves. -/
theorem compares : Obligations.Compares := by
  intro s
  refine ⟨completesTo_finish rfl (by rw [← Bool.toNat_false, ← subN_update8]; rfl) rfl,
    fun op => ⟨?bytes, fun hu i hi => ?_⟩, fun op => ⟨?words, fun hu =>
      ⟨withSrc16_of_unreadable hu _, fun h => ?_, fun h => ?_, fun h => ?_⟩⟩⟩
  case bytes =>
    intro s1 v hr
    have same := fetchSrc8_same hr
    exact ⟨completesTo_compare8 (encodeSrc8_length _ _ _ _ op) rfl hr same.a,
      completesTo_compare8 (encodeSrc8_length _ _ _ _ op) rfl hr same.b⟩
  case words =>
    intro s1 v d hd hr
    have hl : ∀ i d e m, (encodeSrc16 i d e m op).length = 1 + src16Size op :=
      fun i d e m => encodeSrc16_length i d e m op
    have hd1 : s1.d = d := by rw [(fetchSrc16_same hr).d, ← BitVec.toNat_inj, hd, State.d_toNat]
    have hreg : ∀ {r}, op.stepsBase r = false → s1.autoBase r = s.autoBase r := fun h => fetchSrc16_autoBase hr h
    exact ⟨completesTo_compare16 (hl _ _ _ _) rfl hr hd1,
      fun h => completesTo_compare16 (hl _ _ _ _) (refusedIf_of_false h _ _) hr (hreg h),
      fun h => completesTo_compare16 (hl _ _ _ _) (refusedIf_of_false h _ _) hr (hreg h),
      fun h => completesTo_compare16 (hl _ _ _ _) (refusedIf_of_false h _ _) hr (hreg h)⟩
  · simp only [List.mem_cons, List.not_mem_nil, or_false] at hi
    rcases hi with rfl | rfl <;> exact withSrc8_of_unreadable hu _
  all_goals exact (refusedIf_of_false h _ _).trans (withSrc16_of_unreadable hu _)

end Sys2Proof
end

section
/-! SUPPORT. The instructions that write memory at an effective address: each is one write there, in the state its
operand leaves, with a row of R29. From that it follows where it completes and where it stops (R51, R63, R374). -/

namespace Sys2Proof.Machine

open Sys2Proof.Safety

/-! ## One write -/

/-- `i` in `s` is the write of the byte `v` at `a`, with the row `u`, after operands that leave `s1`. -/
structure WritesByte (i : Instr) (s s1 : State) (a : Word) (v : Byte) (u : FlagUpdate) : Prop where
  same : SameButIndex s s1
  exec_eq : exec i s = complete (nextOf i s) (writeByte s1 a v >>= fun t => .ok (t.setFlags u))

/-- `i` in `s` is the write of the word `v` at `a`, with the row `u`, after operands that leave `s1`. -/
structure WritesWord (i : Instr) (s s1 : State) (a v : Word) (u : FlagUpdate) : Prop where
  same : SameButIndex s s1
  exec_eq : exec i s = complete (nextOf i s) (writeWord s1 a v >>= fun t => .ok (t.setFlags u))

theorem SameButIndex.writable {s s1 : State} (h : SameButIndex s s1) {a : Word} (hw : Writable s a) :
    Writable s1 a := by
  unfold Writable
  rwa [h.launch]

namespace WritesByte

variable {i : Instr} {s s1 : State} {a : Word} {v : Byte} {u : FlagUpdate}

theorem storesByteTo (h : WritesByte i s s1 a v u) (hw : Writable s a) : StoresByteTo i s s1 a v u := by
  refine ⟨applyFlags s1.ccr u, (s1.putByte a v).mem, ?_, ?_, fun b => State.putByte_byteAt s1 a b v⟩
  · rw [h.exec_eq, writeByte_of_writable v (h.same.writable hw)]
    rfl
  · rw [h.same.ccr]
    exact applyFlags_row s.ccr u

theorem stops (h : WritesByte i s s1 a v u) : StopsWritingByte i s a := by
  rw [StopsWritingByte, h.exec_eq, ← h.same.launch]
  refine ⟨fun ha => ?_, fun ha hc => ?_⟩
  · rw [writeByte_of_not_admitted v ha]
    rfl
  · rw [writeByte_of_inCode v ha hc]
    rfl

end WritesByte

namespace WritesWord

variable {i : Instr} {s s1 : State} {a v : Word} {u : FlagUpdate}

theorem storesWordTo (h : WritesWord i s s1 a v u) (hw : Writable16 s a) : StoresWordTo i s s1 a v u := by
  refine ⟨applyFlags s1.ccr u, ((s1.putByte a (hiByte v)).putByte (a + 1#16) (loByte v)).mem, ?_, ?_, fun b => ?_⟩
  · rw [h.exec_eq, writeWord_of_writable v ⟨h.same.writable hw.1, h.same.writable hw.2⟩]
    rfl
  · rw [h.same.ccr]
    exact applyFlags_row s.ccr u
  · rw [← hiByte_toNat, ← loByte_toNat, ← apply_ite BitVec.toNat, ← apply_ite BitVec.toNat]
    exact congrArg BitVec.toNat (putWord_byteAt s1 a b v)

theorem stops (h : WritesWord i s s1 a v u) : StopsWritingWord i s a := by
  rw [StopsWritingWord, Readable16, h.exec_eq, ← h.same.launch]
  refine ⟨fun ha => ?_, fun ha hc => ?_⟩
  · rw [writeWord_of_not_readable v ha]
    rfl
  · rw [writeWord_of_inCode v ha hc]
    rfl

end WritesWord

/-! ## The shapes of instruction as one write -/

theorem nextOf_staa (ea : Ea) (s : State) : nextOf (.staa ea) s = s.nextPc (1 + eaSize ea) :=
  nextOf_eq (i := .staa ea) (encodeEa_length _ _ _ ea)

theorem nextOf_clr (ea : EaXI) (s : State) : nextOf (.clr ea) s = s.nextPc (1 + eaXISize ea) :=
  nextOf_eq (i := .clr ea) (encodeEaXI_length _ _ ea)

theorem resolveEa_of_eaOf {ea : Ea} {s s1 : State} {a : Word} (h : EaOf ea s a s1) :
    resolveEa ea (s.nextPc (1 + eaSize ea)) s = .ok (a, s1) := nextOf_staa ea s ▸ h

theorem resolveEaXI_of_eaOfXI {ea : EaXI} {s s1 : State} {a : Word} (h : EaOfXI ea s a s1) :
    resolveEaXI ea (s.nextPc (1 + eaXISize ea)) s = .ok (a, s1) := nextOf_clr ea s ▸ h

/-- A byte that is read to be written back: the read stops only where the write does. -/
theorem readByte_bind_writeByte {β : Type} (s : State) (a : Word) (f : Byte → Byte) (g : Byte → State → Except Stop β) :
    (readByte s a >>= fun m => writeByte s a (f m) >>= g m) =
      writeByte s a (f (s.byteAt a)) >>= g (s.byteAt a) := by
  cases h : s.launch.admits a with
  | true => rw [readByte_of_admitted h, ok_bind]
  | false =>
    rw [readByte_of_not_admitted h, writeByte_of_not_admitted _ h]
    rfl

section
variable {i : Instr} {s s1 : State} {a : Word}

theorem WritesByte.of_storeByte {ea : Ea} {v : Byte} (hl : byteLength i = 1 + eaSize ea)
    (he : exec i s = storeByte ea v s) (ha : EaOf ea s a s1) : WritesByte i s s1 a v (byteRow v) where
  same := resolveEa_same ha
  exec_eq := by rw [he, storeByte_eq, resolveEa_of_eaOf ha, ok_bind, nextOf_eq hl, nzUpdate_eq_byteRow]

theorem WritesWord.of_storeWord {ea : Ea} {v : Word} (hl : byteLength i = 1 + eaSize ea)
    (he : exec i s = storeWord ea v s) (ha : EaOf ea s a s1) : WritesWord i s s1 a v (wordRow v) where
  same := resolveEa_same ha
  exec_eq := by rw [he, storeWord_eq, resolveEa_of_eaOf ha, ok_bind, nextOf_eq hl, nzUpdate_eq_wordRow]

theorem WritesByte.of_writeByteXI {ea : EaXI} {v : Byte} {u : FlagUpdate} (hl : byteLength i = 1 + eaXISize ea)
    (he : exec i s = writeByteXI ea v u s) (ha : EaOfXI ea s a s1) : WritesByte i s s1 a v u where
  same := resolveEaXI_same ha
  exec_eq := by rw [he, writeByteXI_eq, resolveEaXI_of_eaOfXI ha, ok_bind, nextOf_eq hl]

theorem WritesByte.of_modifyByte {ea : EaXI} {f : Byte → Byte × FlagUpdate} (hl : byteLength i = 1 + eaXISize ea)
    (he : exec i s = modifyByte ea f s) (ha : EaOfXI ea s a s1) :
    WritesByte i s s1 a (f (s.byteAt a)).1 (f (s.byteAt a)).2 where
  same := resolveEaXI_same ha
  exec_eq := by
    have hm : s1.byteAt a = s.byteAt a := by rw [State.byteAt, (resolveEaXI_same ha).mem, State.byteAt]
    rw [he, modifyByte_eq, resolveEaXI_of_eaOfXI ha, ok_bind, nextOf_eq hl, ← hm]
    exact congrArg _ (readByte_bind_writeByte s1 a (fun m => (f m).1) fun m t => .ok (t.setFlags (f m).2))

end

/-! ## Operands without an address -/

theorem resolveEa_of_noAddress {ea : Ea} {s : State} (h : NoAddress ea s) :
    resolveEa ea (s.nextPc (1 + eaSize ea)) s = .error (.fault .stuck) := by
  simp only [NoAddress, EaOf, nextOf_staa] at h
  cases hr : resolveEa ea (s.nextPc (1 + eaSize ea)) s with
  | ok p => exact absurd hr (h p.1 p.2)
  | error e => rw [resolveEa_error hr]

theorem resolveEaXI_of_noAddress {ea : EaXI} {s : State} (h : NoAddressXI ea s) :
    resolveEaXI ea (s.nextPc (1 + eaXISize ea)) s = .error (.fault .stuck) := by
  simp only [NoAddressXI, EaOfXI, nextOf_clr] at h
  cases hr : resolveEaXI ea (s.nextPc (1 + eaXISize ea)) s with
  | ok p => exact absurd hr (h p.1 p.2)
  | error e => rw [resolveEaXI_error hr]

theorem storeByte_of_noAddress {ea : Ea} {s : State} (h : NoAddress ea s) (v : Byte) :
    storeByte ea v s = .fault .stuck := by
  rw [storeByte_eq, resolveEa_of_noAddress h]
  rfl

theorem storeWord_of_noAddress {ea : Ea} {s : State} (h : NoAddress ea s) (v : Word) :
    storeWord ea v s = .fault .stuck := by
  rw [storeWord_eq, resolveEa_of_noAddress h]
  rfl

theorem writeByteXI_of_noAddress {ea : EaXI} {s : State} (h : NoAddressXI ea s) (v : Byte) (u : FlagUpdate) :
    writeByteXI ea v u s = .fault .stuck := by
  rw [writeByteXI_eq, resolveEaXI_of_noAddress h]
  rfl

theorem testByteXI_of_noAddress {ea : EaXI} {s : State} (h : NoAddressXI ea s) (f : Byte → FlagUpdate) :
    testByteXI ea f s = .fault .stuck := by
  rw [testByteXI_eq, resolveEaXI_of_noAddress h]
  rfl

theorem modifyByte_of_noAddress {ea : EaXI} {s : State} (h : NoAddressXI ea s) (f : Byte → Byte × FlagUpdate) :
    modifyByte ea f s = .fault .stuck := by
  rw [modifyByte_eq, resolveEaXI_of_noAddress h]
  rfl

/-- An automatic mode has an address, so an operand without one steps no register. -/
theorem stepsBase_of_noAddress {ea : Ea} {s : State} (h : NoAddress ea s) (r : AutoBase) : ea.stepsBase r = false := by
  cases ea with
  | idx x =>
    cases x with
    | auto q post n => exact absurd rfl (h _ _)
    | _ => rfl
  | _ => rfl

end Sys2Proof.Machine

namespace Sys2Proof

open Sys2Proof.Machine Sys2Proof.Safety

/-- Settles O28: a byte store is one write of the accumulator with the row of R111. -/
theorem byteStores : Obligations.ByteStores := by
  intro ea s
  refine ⟨fun s1 a ha => ?_, fun hn i hi => ?_⟩
  · have hstaa := WritesByte.of_storeByte (i := .staa ea) (encodeEa_length _ _ _ ea) rfl ha
    have hstab := WritesByte.of_storeByte (i := .stab ea) (encodeEa_length _ _ _ ea) rfl ha
    refine ⟨fun hw => ⟨hstaa.storesByteTo hw, hstab.storesByteTo hw⟩, fun i hi => ?_⟩
    simp only [List.mem_cons, List.not_mem_nil, or_false] at hi
    rcases hi with rfl | rfl
    · exact hstaa.stops
    · exact hstab.stops
  · simp only [List.mem_cons, List.not_mem_nil, or_false] at hi
    rcases hi with rfl | rfl <;> exact storeByte_of_noAddress hn _

/-- Settles O29: the forms of R96 apart, a word store is one write of the register with the row of R111. -/
theorem wordStores : Obligations.WordStores := by
  intro ea s
  refine ⟨fun s1 a ha => ?_, fun hn i hi => ?_⟩
  · have hl : ∀ d e m, (encodeEa d e m ea).length = 1 + eaSize ea := fun d e m => encodeEa_length d e m ea
    have hstd := WritesWord.of_storeWord (i := .std ea) (hl _ _ _) rfl ha
    have hsts (h : ea.stepsBase .sp = false) :=
      WritesWord.of_storeWord (i := .sts ea) (hl _ _ _) (refusedIf_of_false h _ _) ha
    have hstx (h : ea.stepsBase .x = false) :=
      WritesWord.of_storeWord (i := .stx ea) (hl _ _ _) (refusedIf_of_false h _ _) ha
    have hsty (h : ea.stepsBase .y = false) :=
      WritesWord.of_storeWord (i := .sty ea) (hl _ _ _) (refusedIf_of_false h _ _) ha
    refine ⟨fun hw => ⟨fun d hd => ?_, fun h => (hsts h).storesWordTo hw, fun h => (hstx h).storesWordTo hw,
      fun h => (hsty h).storesWordTo hw⟩, hstd.stops, fun h => (hsts h).stops, fun h => (hstx h).stops,
      fun h => (hsty h).stops⟩
    obtain rfl : d = s.d := by rw [← BitVec.toNat_inj, hd, State.d_toNat]
    exact hstd.storesWordTo hw
  · have hstep := stepsBase_of_noAddress hn
    simp only [List.mem_cons, List.not_mem_nil, or_false] at hi
    rcases hi with rfl | rfl | rfl | rfl
    · exact storeWord_of_noAddress hn _
    all_goals exact (refusedIf_of_false (hstep _) _ _).trans (storeWord_of_noAddress hn _)

end Sys2Proof
end

section
/-! SUPPORT. Read-modify-write, clear and test of a memory byte, and the moves: their results and rows by numbers (R241,
R253, R271, R332, R333), each a write or a read at an effective address. -/

namespace Sys2Proof.Machine

open Sys2Proof.Safety

/-! ## Results and flags by numbers -/

theorem decUpdate_eq (m : Byte) :
    decUpdate m = { byteRow (m - 1#8) with v := some (decide (m.toNat = 128)) } := by
  have hv : (m == 0x80#8) = decide (m.toNat = 128) := by
    rw [Bool.eq_iff_iff, beq_iff_eq, decide_eq_true_eq, ← BitVec.toNat_inj]
    rfl
  rw [decUpdate, hv, byteRow, beq_zero_eq_decide, BitVec.msb_eq_decide]

theorem incUpdate_eq (m : Byte) :
    incUpdate m = { byteRow (m + 1#8) with v := some (decide (m.toNat = 127)) } := by
  have hv : (m == 0x7F#8) = decide (m.toNat = 127) := by
    rw [Bool.eq_iff_iff, beq_iff_eq, decide_eq_true_eq, ← BitVec.toNat_inj]
    rfl
  rw [incUpdate, hv, byteRow, beq_zero_eq_decide, BitVec.msb_eq_decide]

theorem tstUpdate_eq (m : Byte) : tstUpdate m = { byteRow m with c := some false } := by
  rw [tstUpdate, byteRow, beq_zero_eq_decide, BitVec.msb_eq_decide]

theorem clrUpdate_eq : clrUpdate = { byteRow 0#8 with c := some false } := by decide

theorem comUpdate_eq (r : Byte) : comUpdate r = { byteRow r with c := some true } := by
  rw [comUpdate, byteRow, beq_zero_eq_decide, BitVec.msb_eq_decide]

theorem eq_complement {m r : Byte} (h : r.toNat = 255 - m.toNat) : r = m ^^^ 0xFF#8 := by
  have hx : m ^^^ 0xFF#8 = ~~~m := BitVec.xor_allOnes
  rw [hx, ← BitVec.toNat_inj, BitVec.toNat_not, h]

theorem eq_negative {m q : Byte} (h : q.toNat = (256 - m.toNat) % 256) : q = (subN 0x00#8 m false).r := by
  have hm := m.isLt
  rw [← BitVec.toNat_inj, h]
  simp only [subN, BitVec.toNat_ofInt, BitVec.toNat_ofNat, Bool.toNat_false]
  omega

/-- The row of NEG: V exactly on 0x80, C exactly off zero (R271). -/
theorem negUpdate_eq {m q : Byte} (h : q.toNat = (256 - m.toNat) % 256) : (subN 0x00#8 m false).update =
    { byteRow q with v := some (decide (m.toNat = 128)), c := some (decide (m.toNat ≠ 0)) } := by
  have hm := m.isLt
  have hn : ((0 : Int) - m.toNat - 0) % 256 = q.toNat := by omega
  have hn' : decide ((128 : Int) ≤ q.toNat) = decide (128 ≤ q.toNat) := decide_eq_decide.2 (by omega)
  have hz : decide ((q.toNat : Int) = 0) = decide (q.toNat = 0) := decide_eq_decide.2 (by omega)
  have hv : outside8 ((0#8).toInt - m.toInt - (0 : Nat)) = decide (m.toNat = 128) := by
    rw [outside8, decide_eq_decide, BitVec.toInt_eq_toNat_cond m, BitVec.toInt_zero]
    omega
  have hc : decide (0 < m.toNat + 0) = decide (m.toNat ≠ 0) := decide_eq_decide.2 (by omega)
  rw [subN_update8]
  simp only [diffRow8, byteRow, Bool.toNat_false, hv]
  simp only [BitVec.toNat_zero, Nat.cast_zero, hn, hn', hz, hc]

/-! ## Shifts -/

/-- The row of R333, V being N XOR C. -/
theorem ShiftOut.update_eq (o : ShiftOut 8) : o.update = shiftRow8 o.r.toNat o.k := by
  rw [ShiftOut.update, shiftRow8, beq_zero_eq_decide, BitVec.msb_eq_decide]

theorem shiftLeft_toNat (m : Byte) : (shiftLeft m).r.toNat = 2 * m.toNat % 256 := by
  rw [shiftLeft, BitVec.toNat_shiftLeft, Nat.shiftLeft_eq, Nat.mul_comm]

theorem shiftRight_toNat (m : Byte) : (shiftRight m).r.toNat = m.toNat / 2 := by
  rw [shiftRight, BitVec.toNat_ushiftRight, Nat.shiftRight_eq_div_pow]

/-- Bits from `k` on and bits below `k` join by addition. -/
theorem toNat_or_of_lt {x y : Byte} {k h : Nat} (hx : x.toNat = h * 2 ^ k) (hy : y.toNat < 2 ^ k) :
    (x ||| y).toNat = h * 2 ^ k + y.toNat := by
  rw [BitVec.toNat_or, hx, ← Nat.shiftLeft_eq, Nat.shiftLeft_add_eq_or_of_lt hy]

theorem shiftRightArith_toNat (m : Byte) :
    (shiftRightArith m).r.toNat = m.toNat / 2 + if 128 ≤ m.toNat then 128 else 0 := by
  have hm := m.isLt
  have htop : (m &&& BitVec.ofNat 8 (2 ^ 7)).toNat = (decide (128 ≤ m.toNat)).toNat * 2 ^ 7 := by
    rw [← BitVec.msb_eq_decide (w := 8) m, BitVec.msb_eq_getLsbD_last]
    exact Nat.and_two_pow m.toNat 7
  have hlow : (m >>> 1).toNat = m.toNat / 2 := shiftRight_toNat m
  rw [shiftRightArith, BitVec.or_comm, toNat_or_of_lt htop (by omega), hlow, Nat.add_comm]
  split <;> simp [*]

theorem rotateLeft_toNat (c : Bool) (m : Byte) : (rotateLeft c m).r.toNat = (2 * m.toNat + c.toNat) % 256 := by
  have hc := c.toNat_le
  have hhigh : (m <<< 1).toNat = m.toNat % 128 * 2 ^ 1 := (shiftLeft_toNat m).trans (by omega)
  have hlow : (BitVec.ofNat 8 c.toNat).toNat = c.toNat := by rw [BitVec.toNat_ofNat]; omega
  rw [rotateLeft, toNat_or_of_lt hhigh (by omega), hlow]
  omega

theorem rotateRight_toNat (c : Bool) (m : Byte) : (rotateRight c m).r.toNat = m.toNat / 2 + 128 * c.toNat := by
  have hm := m.isLt
  have hc := c.toNat_le
  have hhigh : (BitVec.ofNat 8 (c.toNat * 2 ^ 7)).toNat = c.toNat * 2 ^ 7 := by rw [BitVec.toNat_ofNat]; omega
  have hlow : (m >>> 1).toNat = m.toNat / 2 := shiftRight_toNat m
  rw [rotateRight, BitVec.or_comm, toNat_or_of_lt hhigh (by omega), hlow]
  omega

/-- The bit a shift to the left moves into C. -/
theorem msb_eq_le (m : Byte) : m.msb = decide (128 ≤ m.toNat) := BitVec.msb_eq_decide m

/-- The bit a shift to the right moves into C. -/
theorem getLsbD_zero_eq (m : Byte) : m.getLsbD 0 = decide (m.toNat % 2 = 1) := by
  rw [BitVec.getLsbD, Nat.testBit_zero]

/-! ## Read-modify-write and test -/

section
variable {i : Instr} {ea : EaXI} {s s1 : State} {a : Word}

theorem stopsWritingByte_modifyByte {f : Byte → Byte × FlagUpdate} (hl : byteLength i = 1 + eaXISize ea)
    (he : exec i s = modifyByte ea f s) (ha : EaOfXI ea s a s1) : StopsWritingByte i s a :=
  (WritesByte.of_modifyByte hl he ha).stops

/-- A read-modify-write completes with the result and the row that its function gives of the byte there. -/
theorem storesByteTo_modifyByte {f : Byte → Byte × FlagUpdate} {r : Byte} {u : FlagUpdate}
    (hl : byteLength i = 1 + eaXISize ea) (he : exec i s = modifyByte ea f s) (ha : EaOfXI ea s a s1)
    (hw : Writable s a) (hf : f (s.byteAt a) = (r, u)) : StoresByteTo i s s1 a r u := by
  have h := WritesByte.of_modifyByte hl he ha
  rw [hf] at h
  exact h.storesByteTo hw

/-- A shift of memory completes with the result `r` and carry `k` of R332 of the byte there. -/
theorem storesByteTo_shiftMemory {f : Byte → ShiftOut 8} {r : Byte} {k : Bool} (hl : byteLength i = 1 + eaXISize ea)
    (he : exec i s = shiftMemory ea f s) (ha : EaOfXI ea s a s1) (hw : Writable s a)
    (hr : r.toNat = (f (s.byteAt a)).r.toNat) (hk : (f (s.byteAt a)).k = k) :
    StoresByteTo i s s1 a r (shiftRow8 r.toNat k) := by
  refine storesByteTo_modifyByte hl he ha hw ?_
  rw [ShiftOut.update_eq, hk, ← hr, BitVec.eq_of_toNat_eq hr]

theorem testByteXI_of_eaOfXI {f : Byte → FlagUpdate} (ha : EaOfXI ea s a s1) :
    testByteXI ea f s = complete (s.nextPc (1 + eaXISize ea)) (readByte s a >>= fun m => .ok (s1.setFlags (f m))) := by
  rw [testByteXI_eq, resolveEaXI_of_eaOfXI ha, ok_bind, (resolveEaXI_same ha).readByte]

end

/-! ## Moves -/

theorem SameButIndex.trans {s t u : State} (h : SameButIndex s t) (h' : SameButIndex t u) : SameButIndex s u :=
  ⟨h'.a.trans h.a, h'.b.trans h.b, h'.pc.trans h.pc, h'.ccr.trans h.ccr, h'.ccrh.trans h.ccrh, h'.mem.trans h.mem,
    h'.launch.trans h.launch, h'.freeCount.trans h.freeCount⟩

theorem bind_setFlags_none (r : Except Stop State) : (r >>= fun t => .ok (t.setFlags {})) = r := by
  cases r <;> rfl

theorem fetchMovSrc8_error {src : MovSrc8} {next : Word} {s : State} {e : Stop}
    (h : fetchMovSrc8 src next s = .error e) : e = .fault .stuck := by
  cases src with
  | imm v => cases h
  | ext a => exact fetchSrc8_error (next := next) (op := .mem (.ext a)) h
  | idx i => exact fetchSrc8_error (next := next) (op := .mem (.idx i)) h

theorem fetchMovSrc16_error {src : MovSrc16} {next : Word} {s : State} {e : Stop}
    (h : fetchMovSrc16 src next s = .error e) : e = .fault .stuck := by
  cases src with
  | imm v => cases h
  | ext a => exact fetchSrc16_error (next := next) (op := .mem (.ext a)) h
  | idx i => exact fetchSrc16_error (next := next) (op := .mem (.idx i)) h

/-- An admitted MOVB is its source, then its destination address, then its write. -/
theorem exec_movb_eq {src : MovSrc8} {dst : MovDst} (hs : src.movForm = true) (hd : dst.movForm = true) (s : State) :
    exec (.movb src dst) s = complete (nextOf (.movb src dst) s)
      (fetchMovSrc8 src (nextOf (.movb src dst) s) s >>= fun p =>
        resolveMovDst dst (nextOf (.movb src dst) s) p.2 >>= fun q => writeByte q.2 q.1 p.1) := by
  rw [nextOf_eq (i := .movb src dst) (encodeMovb_length src dst)]
  exact (execMovb_eq src dst s).trans (if_pos (by rw [hs, hd, Bool.and_self]))

theorem exec_movw_eq {src : MovSrc16} {dst : MovDst} (hs : src.movForm = true) (hd : dst.movForm = true) (s : State) :
    exec (.movw src dst) s = complete (nextOf (.movw src dst) s)
      (fetchMovSrc16 src (nextOf (.movw src dst) s) s >>= fun p =>
        resolveMovDst dst (nextOf (.movw src dst) s) p.2 >>= fun q => writeWord q.2 q.1 p.1) := by
  rw [nextOf_eq (i := .movw src dst) (encodeMovw_length src dst)]
  exact (execMovw_eq src dst s).trans (if_pos (by rw [hs, hd, Bool.and_self]))

theorem WritesByte.of_movb {src : MovSrc8} {dst : MovDst} {s s1 s2 : State} {a : Word} {v : Byte}
    (hs : src.movForm = true) (hd : dst.movForm = true)
    (hv : fetchMovSrc8 src (nextOf (.movb src dst) s) s = .ok (v, s1))
    (ha : resolveMovDst dst (nextOf (.movb src dst) s) s1 = .ok (a, s2)) :
    WritesByte (.movb src dst) s s2 a v {} where
  same := ((fetchMovSrc8_operand src _ s).same v s1 hv).trans (resolveMovDst_same ha)
  exec_eq := by rw [exec_movb_eq hs hd, hv, ok_bind, ha, ok_bind, bind_setFlags_none]

theorem WritesWord.of_movw {src : MovSrc16} {dst : MovDst} {s s1 s2 : State} {a v : Word}
    (hs : src.movForm = true) (hd : dst.movForm = true)
    (hv : fetchMovSrc16 src (nextOf (.movw src dst) s) s = .ok (v, s1))
    (ha : resolveMovDst dst (nextOf (.movw src dst) s) s1 = .ok (a, s2)) :
    WritesWord (.movw src dst) s s2 a v {} where
  same := ((fetchMovSrc16_operand src _ s).same v s1 hv).trans (resolveMovDst_same ha)
  exec_eq := by rw [exec_movw_eq hs hd, hv, ok_bind, ha, ok_bind, bind_setFlags_none]

end Sys2Proof.Machine

namespace Sys2Proof

open Sys2Proof.Machine Sys2Proof.Safety

/-- Settles O35: an admitted move is one write, after its source and its destination address. -/
theorem moves : Obligations.Moves := by
  intro dst s hd
  refine ⟨fun src hs => ⟨fun s1 s2 a v hv ha => ?_, fun hn => ?_⟩,
    fun src hs => ⟨fun s1 s2 a v hv ha => ?_, fun hn => ?_⟩⟩
  · have h := WritesByte.of_movb hs hd hv ha
    exact ⟨h.storesByteTo, h.stops⟩
  · rw [exec_movb_eq hs hd]
    cases hf : fetchMovSrc8 src (nextOf (.movb src dst) s) s with
    | ok p => exact absurd hf (hn p.1 p.2)
    | error e => rw [fetchMovSrc8_error hf]; rfl
  · have h := WritesWord.of_movw hs hd hv ha
    exact ⟨h.storesWordTo, h.stops⟩
  · rw [exec_movw_eq hs hd]
    cases hf : fetchMovSrc16 src (nextOf (.movw src dst) s) s with
    | ok p => exact absurd hf (hn p.1 p.2)
    | error e => rw [fetchMovSrc16_error hf]; rfl

/-- Settles O44: DEC and INC are a read-modify-write by -1 or +1 with the row of R241. -/
theorem memoryIncrementAndDecrement : Obligations.MemoryIncrementAndDecrement := by
  intro ea s
  refine ⟨fun s1 a ha => ⟨fun hw r q hr hq => ⟨?dec, ?inc⟩, fun i hi => ?_⟩, fun hn i hi => ?_⟩
  case dec =>
    obtain rfl : r = s.byteAt a - 1#8 := by bv_omega
    exact storesByteTo_modifyByte (encodeEaXI_length _ _ ea) rfl ha hw (by rw [decUpdate_eq])
  case inc =>
    obtain rfl : q = s.byteAt a + 1#8 := by bv_omega
    exact storesByteTo_modifyByte (encodeEaXI_length _ _ ea) rfl ha hw (by rw [incUpdate_eq])
  all_goals simp only [List.mem_cons, List.not_mem_nil, or_false] at hi
  · rcases hi with rfl | rfl <;> exact stopsWritingByte_modifyByte (encodeEaXI_length _ _ ea) rfl ha
  · rcases hi with rfl | rfl <;> exact modifyByte_of_noAddress hn _

/-- Settles O48: a test is a read with the row of R253. -/
theorem tests : Obligations.Tests := by
  intro s
  refine ⟨completesTo_finish rfl (by rw [← tstUpdate_eq]; rfl) rfl,
    completesTo_finish rfl (by rw [← tstUpdate_eq]; rfl) rfl, fun ea => ⟨fun s1 a ha => ⟨fun h => ?_, fun h => ?_⟩,
    fun hn => testByteXI_of_noAddress hn _⟩⟩
  · refine completesTo_of_setFlags ?_ (resolveEaXI_same ha).ccr
    rw [nextOf_eq (i := .tst ea) (encodeEaXI_length _ _ ea), ← tstUpdate_eq]
    refine (testByteXI_of_eaOfXI ha).trans ?_
    rw [readByte_of_admitted h, ok_bind, complete_ok]
  · refine (testByteXI_of_eaOfXI ha).trans ?_
    rw [readByte_of_not_admitted h]
    rfl

/-- Settles O51: CLR is a write of zero, COM and NEG are read-modify-writes, with the rows of R271. -/
theorem memoryClearComplementNegate : Obligations.MemoryClearComplementNegate := by
  intro ea s
  have hl : ∀ d e, (encodeEaXI d e ea).length = 1 + eaXISize ea := fun d e => encodeEaXI_length d e ea
  refine ⟨fun s1 a ha => ?_, fun hn i hi => ?_⟩
  · have hclr := WritesByte.of_writeByteXI (i := .clr ea) (hl _ _) rfl ha
    refine ⟨fun hw r q hr hq => ⟨?clr, ?com, ?neg⟩, fun i hi => ?_⟩
    case clr => exact clrUpdate_eq ▸ hclr.storesByteTo hw
    case com => exact storesByteTo_modifyByte (hl _ _) rfl ha hw (by rw [← eq_complement hr, comUpdate_eq])
    case neg => exact storesByteTo_modifyByte (hl _ _) rfl ha hw (by rw [← eq_negative hq, negUpdate_eq hq])
    simp only [List.mem_cons, List.not_mem_nil, or_false] at hi
    rcases hi with rfl | rfl | rfl
    · exact hclr.stops
    all_goals exact stopsWritingByte_modifyByte (hl _ _) rfl ha
  · simp only [List.mem_cons, List.not_mem_nil, or_false] at hi
    rcases hi with rfl | rfl | rfl
    · exact writeByteXI_of_noAddress hn _ _
    all_goals exact modifyByte_of_noAddress hn _

/-- Settles O60: a shift of memory is a read-modify-write by its operation of R332, with the row of R333. -/
theorem memoryShifts : Obligations.MemoryShifts := by
  intro ea s
  have hl : ∀ d e, (encodeEaXI d e ea).length = 1 + eaXISize ea := fun d e => encodeEaXI_length d e ea
  refine ⟨fun s1 a ha => ⟨fun hw m r hm => ?_, fun i hi => ?_⟩, fun hn i hi => ?_⟩
  · subst hm
    rw [carry_eq_flagC]
    refine ⟨fun hr i hi => ?lsl, fun hr => ?lsr, fun hr => ?asr, fun hr => ?rol, fun hr => ?ror⟩
    case lsl =>
      simp only [List.mem_cons, List.not_mem_nil, or_false] at hi
      rcases hi with rfl | rfl <;>
        exact storesByteTo_shiftMemory (hl _ _) rfl ha hw (hr.trans (shiftLeft_toNat _).symm) (msb_eq_le _)
    case lsr =>
      exact storesByteTo_shiftMemory (hl _ _) rfl ha hw (hr.trans (shiftRight_toNat _).symm) (getLsbD_zero_eq _)
    case asr =>
      exact storesByteTo_shiftMemory (hl _ _) rfl ha hw (hr.trans (shiftRightArith_toNat _).symm) (getLsbD_zero_eq _)
    case rol =>
      exact storesByteTo_shiftMemory (hl _ _) rfl ha hw (hr.trans (rotateLeft_toNat _ _).symm) (msb_eq_le _)
    case ror =>
      exact storesByteTo_shiftMemory (hl _ _) rfl ha hw (hr.trans (rotateRight_toNat _ _).symm) (getLsbD_zero_eq _)
  all_goals simp only [List.mem_cons, List.not_mem_nil, or_false] at hi
  · rcases hi with rfl | rfl | rfl | rfl | rfl | rfl <;> exact stopsWritingByte_modifyByte (hl _ _) rfl ha
  · rcases hi with rfl | rfl | rfl | rfl | rfl | rfl <;> exact modifyByte_of_noAddress hn _

end Sys2Proof
end

section
/-! SUPPORT. The decoder over the bytes it reads: it reads as many as the instruction is long, and a refusal of what it
has read stays whatever follows. So the stops before an instruction are those of its bytes (R63, R104, R374). -/

namespace Sys2Proof

open Sys2Proof.Machine

/-! ## Readers by what they read -/

/-- A reader that starts after `n` bytes: a value it answers has in all the bytes that `size` gives, and a refusal
that is not for want of bytes stays with more bytes. -/
structure Measured {α : Type} (size : α → Nat) (n : Nat) (p : List Byte → Except DecodeError (α × List Byte)) :
    Prop where
  length : ∀ bs v rest, p bs = .ok (v, rest) → n + bs.length = size v + rest.length
  refuses : ∀ bs e tail, p bs = .error e → e ≠ .truncated → p (bs ++ tail) = .error e

namespace Measured

variable {α : Type} {size : α → Nat} {n : Nat} {p q : List Byte → Except DecodeError (α × List Byte)}

theorem ok {v : α} (h : size v = n) : Measured size n fun bs => .ok (v, bs) where
  length := fun bs w rest hw => by
    cases hw
    rw [h]
  refuses := nofun

theorem error (e : DecodeError) : Measured size n fun _ => .error e where
  length := nofun
  refuses := fun _ _ _ h _ => h

theorem ite {c : Prop} [Decidable c] (hp : Measured size n p) (hq : Measured size n q) :
    Measured size n fun bs => if c then p bs else q bs := by
  by_cases hc : c
  · simpa only [if_pos hc] using hp
  · simpa only [if_neg hc] using hq

theorem of_cons (hn : p [] = .error .truncated) (hc : ∀ b, Measured size (n + 1) fun bs => p (b :: bs)) :
    Measured size n p where
  length := fun bs v rest h => by
    cases bs with
    | nil => rw [hn] at h; cases h
    | cons b bs => rw [List.length_cons, ← (hc b).length bs v rest h]; omega
  refuses := fun bs e tail h he => by
    cases bs with
    | nil => rw [hn] at h; cases h; exact absurd rfl he
    | cons b bs => exact (hc b).refuses bs e tail h he

end Measured

/-! ## Operands -/

theorem decodeIdxLong_measured (r : Base) (zzz : BitVec 3) : Measured idxSize 1 (decodeIdxLong r zzz) :=
  .ite (.ok rfl) (.ite (.ok rfl) (.ite (.ok rfl) (.ite (.ok rfl) (.of_cons rfl fun _ =>
    .ite (.ok rfl) (.ite (.ok rfl) (.of_cons rfl fun _ => .ite (.ok rfl) (.ok rfl)))))))

theorem decodeIdx_measured : Measured idxSize 0 decodeIdx := by
  refine .of_cons rfl fun xb => .ite (.ok rfl) ?_
  cases AutoBase.ofCode (xb.extractLsb' 6 2) with
  | some r => exact .ok rfl
  | none => exact decodeIdxLong_measured _ _

theorem movForm_of_decodeMovIdx {xb : Byte} {i : Idx} (h : decodeMovIdx xb = some i) : i.movForm = true := by
  unfold decodeMovIdx at h
  split at h
  · split at h
    · next hm =>
      cases h
      exact hm
    · cases h
  · cases h

/-! ## Rows -/

@[simp] theorem parseInh_measured {i : Instr} {n : Nat} (h : byteLength i = n) :
    Measured byteLength n (parseInh i) := .ok h

@[simp] theorem parseByte_measured {f : Byte → Instr} {n : Nat} (h : ∀ b, byteLength (f b) = n + 1) :
    Measured byteLength n (parseByte f) := .of_cons rfl fun b => .ok (h b)

@[simp] theorem parseWord_measured {f : Word → Instr} {n : Nat} (h : ∀ w, byteLength (f w) = n + 2) :
    Measured byteLength n (parseWord f) := .of_cons rfl fun _ => .of_cons rfl fun _ => .ok (h _)

@[simp] theorem parseIdx_measured {f : Idx → Instr} {n : Nat} (h : ∀ i, byteLength (f i) = n + idxSize i) :
    Measured byteLength n (parseIdx f) where
  length := fun bs v rest hv => by
    unfold parseIdx at hv
    split at hv
    · next i r hi =>
      cases hv
      have := decodeIdx_measured.length bs i rest hi
      rw [h]
      omega
    · cases hv
  refuses := fun bs e tail he hne => by
    unfold parseIdx at he ⊢
    split at he
    · cases he
    · next e' hi =>
      cases he
      rw [decodeIdx_measured.refuses bs e tail hi hne]

@[simp] theorem parseReg_measured : Measured byteLength 1 parseReg := by
  refine .of_cons rfl fun eb => .ite (.error _) ?_
  cases Reg.ofCode (eb.extractLsb' 4 3) with
  | none => exact .error _
  | some r1 =>
    cases Reg.ofCode (eb.extractLsb' 0 3) with
    | none => exact .error _
    | some r2 => exact .ok (by cases eb.getLsbD 7 <;> rfl)

theorem movWithIdx_measured {f : Idx → Instr} {n : Nat} (h : ∀ i, i.movForm = true → byteLength (f i) = n)
    (xb : Byte) : Measured byteLength n (movWithIdx xb f) := by
  unfold movWithIdx
  cases hx : decodeMovIdx xb with
  | none => exact .error _
  | some i => exact .ok (h i (movForm_of_decodeMovIdx hx))

@[simp] theorem parseIdxByte_measured {f : Idx → Byte → Instr} {n : Nat}
    (h : ∀ i b, i.movForm = true → byteLength (f i b) = n + 2) : Measured byteLength n (parseIdxByte f) :=
  .of_cons rfl fun xb => .of_cons rfl fun b => movWithIdx_measured (fun i hi => h i b hi) xb

@[simp] theorem parseIdxWord_measured {f : Idx → Word → Instr} {n : Nat}
    (h : ∀ i w, i.movForm = true → byteLength (f i w) = n + 3) : Measured byteLength n (parseIdxWord f) :=
  .of_cons rfl fun xb => .of_cons rfl fun _ => .of_cons rfl fun _ => movWithIdx_measured (fun i hi => h i _ hi) xb

@[simp] theorem parseIdxIdx_measured {f : Idx → Idx → Instr} {n : Nat}
    (h : ∀ i j, i.movForm = true → j.movForm = true → byteLength (f i j) = n + 2) :
    Measured byteLength n (parseIdxIdx f) := by
  refine .of_cons rfl fun xb1 => .of_cons rfl fun xb2 => ?_
  simp only [parseIdxIdx]
  cases hx : decodeMovIdx xb1 with
  | none => exact .error _
  | some i =>
    cases hy : decodeMovIdx xb2 with
    | none => exact .error _
    | some j => exact .ok (h i j (movForm_of_decodeMovIdx hx) (movForm_of_decodeMovIdx hy))

@[simp] theorem parseByteWord_measured {f : Byte → Word → Instr} {n : Nat}
    (h : ∀ b w, byteLength (f b w) = n + 3) : Measured byteLength n (parseByteWord f) :=
  .of_cons rfl fun b => .of_cons rfl fun _ => .of_cons rfl fun _ => .ok (h b _)

@[simp] theorem parseWordWord_measured {f : Word → Word → Instr} {n : Nat}
    (h : ∀ v w, byteLength (f v w) = n + 4) : Measured byteLength n (parseWordWord f) :=
  .of_cons rfl fun _ => .of_cons rfl fun _ => .of_cons rfl fun _ => .of_cons rfl fun _ => .ok (h _ _)

/-! ## The decoder -/

/-- Every row of the page is measured from `n` opcode bytes on. -/
def PageMeasured (n : Nat) (page : List (Nat × Parser)) : Prop := ∀ row ∈ page, Measured byteLength n row.2

@[simp] theorem pageMeasured_nil (n : Nat) : PageMeasured n [] := nofun

@[simp] theorem pageMeasured_cons (n : Nat) (row : Nat × Parser) (page : List (Nat × Parser)) :
    PageMeasured n (row :: page) ↔ Measured byteLength n row.2 ∧ PageMeasured n page := List.forall_mem_cons

@[simp] theorem pageMeasured_append (n : Nat) (l m : List (Nat × Parser)) :
    PageMeasured n (l ++ m) ↔ PageMeasured n l ∧ PageMeasured n m := List.forall_mem_append

theorem page1_measured : PageMeasured 1 page1 := by
  simp only [page1, pageMeasured_append]
  simp [page1Row0, page1Row1, page1Row3, page1Row4, page1Row5, page1Row6, page1Row7, page1Row8, page1Row9, page1RowA,
    page1RowB, page1RowC, page1RowD, page1RowE, page1RowF, byteLength, encode, encodeEa, encodeEaXI, encodeSrc8,
    encodeSrc16, Nat.add_comm]

theorem page2_measured : PageMeasured 2 page2 := by
  simp +contextual [page2, page2Moves, page2Inherent, byteLength, encode, encodeMovb_length, encodeMovw_length,
    movSrc8Size, movSrc16Size, movDstSize, idxSize_of_movForm]

theorem decodeWith_measured {n : Nat} {page : List (Nat × Parser)} (h : PageMeasured n page) (op : Byte) :
    Measured byteLength n (decodeWith page op) := by
  unfold decodeWith
  induction page with
  | nil => exact .error _
  | cons row page ih =>
    obtain ⟨hrow, hpage⟩ := (pageMeasured_cons n row page).1 h
    rw [List.lookup_cons]
    cases op.toNat == row.1 with
    | true => exact hrow
    | false => exact ih hpage

theorem decodeGeneral_measured : Measured byteLength 0 decodeGeneral :=
  .of_cons rfl fun op => .ite (.of_cons rfl fun op2 => decodeWith_measured page2_measured op2)
    (decodeWith_measured page1_measured op)

/-- The name of R98 or R99 that the decoder gives an instruction is as long as the instruction. -/
theorem byteLength_canonical (i : Instr) : byteLength (canonical i) = byteLength i := by
  cases i with
  | leas x =>
    simp only [canonical]
    split_ifs <;> subst_vars <;> rfl
  | leax x =>
    simp only [canonical]
    split_ifs <;> subst_vars <;> rfl
  | leay x =>
    simp only [canonical]
    split_ifs <;> subst_vars <;> rfl
  | andcc ii =>
    simp only [canonical, nameAndcc]
    split_ifs <;> rfl
  | exg p q =>
    simp only [canonical, nameExg]
    split_ifs <;> rfl
  | tfr p q =>
    simp only [canonical, nameTfr]
    split <;> rfl
  | _ => rfl

theorem decode_measured : Measured byteLength 0 decode where
  length := fun bs i rest h => by
    unfold decode at h
    split at h
    · next j r hj =>
      cases h
      rw [byteLength_canonical]
      exact decodeGeneral_measured.length bs j rest hj
    · cases h
  refuses := fun bs e tail h he => by
    unfold decode at h ⊢
    split at h
    · cases h
    · next e' he' =>
      cases h
      rw [decodeGeneral_measured.refuses bs e tail he' he]

end Sys2Proof

namespace Sys2Proof.Machine

open Sys2Proof.Safety

/-! ## The stops of the fetch -/

theorem inCode_of_lt_fetchWindow_length {s : State} {k j : Nat} {a : Word} (h : j < (fetchWindow s k a).length) :
    s.launch.inCode (a + BitVec.ofNat 16 j) = true := by
  induction k generalizing j a with
  | zero => exact absurd h (Nat.not_lt_zero j)
  | succ k ih =>
    rw [fetchWindow] at h
    split at h
    · next ha =>
      cases j with
      | zero => rwa [BitVec.add_zero]
      | succ j =>
        have hj := ih (Nat.lt_of_succ_lt_succ h)
        rwa [BitVec.add_assoc, ← BitVec.ofNat_add, Nat.add_comm 1] at hj
    · exact absurd h (Nat.not_lt_zero j)

/-- The window ends with the text (R63). -/
theorem fetchWindow_of_text_end {s : State} {bs : List Byte} (h : TextBytes s bs) (hk : bs.length ≤ 6)
    (hend : s.launch.inCode (s.nextPc bs.length) = false) : fetchWindow s 6 s.pc = bs := by
  obtain ⟨tail, ht⟩ := fetchWindow_of_textBytes h hk
  cases tail with
  | nil => rw [ht, List.append_nil]
  | cons b tail =>
    have hlt : bs.length < (fetchWindow s 6 s.pc).length := by
      rw [ht, List.length_append, List.length_cons]
      omega
    exact absurd (hend.symm.trans (inCode_of_lt_fetchWindow_length hlt)) Bool.false_ne_true

/-- The refusal of the fetch for bytes that are no instruction. -/
def fetchRefusal : DecodeError → Refusal
  | .truncated => .fetchOutsideCode
  | .notInScope => .notInScope
  | .moveIndexedForm => .moveIndexedForm

theorem decodeFetched_of_error (s : State) {bytes : List Byte} {e : DecodeError} (h : decode bytes = .error e) :
    decodeFetched s bytes = .error (.refused (fetchRefusal e)) := by
  cases e <;> simp only [decodeFetched, h] <;> rfl

theorem decodeFetched_of_ok (s : State) {bytes rest : List Byte} {i : Instr} (h : decode bytes = .ok (i, rest)) :
    decodeFetched s bytes =
      if WellFormed i && !fetchAdmitted s (byteLength i) then .error (.fault .stuck) else .ok i := by
  have hlen : bytes.length - rest.length = byteLength i := by
    have := decode_measured.length bytes i rest h
    omega
  simp only [decodeFetched, h, hlen]

theorem step_of_fetch_ok {s : State} {i : Instr} (h : fetchInstr s = .ok i) : step s = exec i s := by
  rw [step, h]

theorem step_of_fetch_error {s : State} {e : Stop} (h : fetchInstr s = .error e) : step s = stopWith e := by
  rw [step, h]

theorem fetchInstr_of_end {s : State} (h : s.pc = s.launch.endPc) : fetchInstr s = .error (.fault .runEnded) :=
  if_pos h

theorem fetchInstr_of_window {s : State} (h : s.pc ≠ s.launch.endPc) {bytes : List Byte}
    (hw : fetchWindow s 6 s.pc = bytes) : fetchInstr s = decodeFetched s bytes := by
  rw [fetchInstr, if_neg h, hw]

end Sys2Proof.Machine

namespace Sys2Proof

open Sys2Proof.Machine Sys2Proof.Safety

/-- Settles O8: the window starts with the text's bytes, and what the decoder makes of them stays with more bytes. -/
theorem stepStopsBeforeExecuting : Obligations.StepStopsBeforeExecuting := by
  intro s
  refine ⟨fun he => step_of_fetch_error (fetchInstr_of_end he), fun he bs hlen ht => ?_⟩
  obtain ⟨tail, hw⟩ := fetchWindow_of_textBytes ht hlen
  have refused : ∀ e, decode bs = .error e → e ≠ .truncated → step s = .refused (fetchRefusal e) := by
    intro e hd hne
    have hd' := decode_measured.refuses bs e tail hd hne
    exact step_of_fetch_error ((fetchInstr_of_window he hw).trans (decodeFetched_of_error s hd'))
  refine ⟨fun hd hend => ?outside, fun hd => refused _ hd nofun, fun hd => refused _ hd nofun,
    fun i rest hd => ?instruction⟩
  case outside =>
    have hw' := fetchWindow_of_text_end ht hlen hend
    exact step_of_fetch_error ((fetchInstr_of_window he hw').trans (decodeFetched_of_error s hd))
  case instruction =>
    have hfetch := (fetchInstr_of_window he hw).trans (decodeFetched_of_ok s (decode_extends bs i rest tail hd))
    refine ⟨fun hwf => step_of_fetch_ok ?_, fun hwf k hk hadm => step_of_fetch_error (e := .fault .stuck) ?_⟩
    · rw [hfetch, hwf]
      rfl
    · have hnot : fetchAdmitted s (byteLength i) = false :=
        List.all_eq_false.2 ⟨k, List.mem_range.2 hk, by rw [hadm]; exact Bool.false_ne_true⟩
      rw [hfetch, hwf, hnot]
      rfl

end Sys2Proof
end

section
/-! SUPPORT. The decoder and the encoder are inverse (R71 to R75, R91, R93, R94): each reader of the opcode map answers
exactly the values of its row, from exactly their bytes, so that a row's opcode in front of them is the encoding. -/

namespace Sys2Proof

open Sys2Proof.Machine

/-! ## Codes of the fields -/

theorem Base.ofCode_code (r : Base) : Base.ofCode r.code = r := by
  cases r <;> rfl

theorem Base.code_ofCode (c : BitVec 2) : (Base.ofCode c).code = c := by
  revert c
  decide

theorem AutoBase.ofCode_eq_some_iff (c : BitVec 2) (r : AutoBase) : AutoBase.ofCode c = some r ↔ r.code = c := by
  revert c
  cases r <;> decide

theorem AutoBase.ofCode_eq_none_iff (c : BitVec 2) : AutoBase.ofCode c = none ↔ c = 3#2 := by
  revert c
  decide

theorem Reg.ofCode_eq_some_iff (c : BitVec 3) (r : Reg) : Reg.ofCode c = some r ↔ r.code = c := by
  revert c
  rcases r with (_ | _ | _) | (_ | _ | _ | _) <;> decide

theorem Reg.ofCode_eq_none_iff (c : BitVec 3) : Reg.ofCode c = none ↔ c = 3#3 := by
  revert c
  decide

/-! ## Fields of a postbyte (R91, R93) -/

/-- The row `rr0nnnnn`. -/
theorem n5_postbyte_iff (xb : Byte) (c : BitVec 2) (n : BitVec 5) :
    (xb.getLsbD 5 = false ∧ xb.extractLsb' 6 2 = c ∧ xb.extractLsb' 0 5 = n) ↔ xb = c ++ 0#1 ++ n := by
  constructor
  · rintro ⟨h, rfl, rfl⟩
    revert xb
    decide
  · rintro rfl
    revert c n
    decide

/-- The row `rr1pnnnn`. -/
theorem auto_postbyte_iff (xb : Byte) (c : BitVec 2) (post : Bool) (n : BitVec 4) :
    (xb.getLsbD 5 = true ∧ xb.extractLsb' 6 2 = c ∧ xb.getLsbD 4 = post ∧ xb.extractLsb' 0 4 = n) ↔
      xb = c ++ 1#1 ++ BitVec.ofBool post ++ n := by
  constructor
  · rintro ⟨h, rfl, rfl, rfl⟩
    revert xb
    decide
  · rintro rfl
    revert c post n
    decide

/-- The rows `111rrzzz`. -/
theorem long_postbyte_iff (xb : Byte) (c : BitVec 2) (z : BitVec 3) :
    (xb.getLsbD 5 = true ∧ xb.extractLsb' 6 2 = 3#2 ∧ xb.extractLsb' 3 2 = c ∧ xb.extractLsb' 0 3 = z) ↔
      xb = 7#3 ++ c ++ z := by
  constructor
  · rintro ⟨h, h', rfl, rfl⟩
    revert xb
    decide
  · rintro rfl
    revert c z
    decide

/-- The register postbyte: bit 3 is zero. -/
theorem reg_postbyte_iff (eb : Byte) (exchange : Bool) (p q : BitVec 3) :
    (eb.getLsbD 3 = false ∧ eb.getLsbD 7 = exchange ∧ eb.extractLsb' 4 3 = p ∧ eb.extractLsb' 0 3 = q) ↔
      eb = BitVec.ofBool exchange ++ p ++ 0#1 ++ q := by
  constructor
  · rintro ⟨h, rfl, rfl, rfl⟩
    revert eb
    decide
  · rintro rfl
    revert exchange p q
    decide

/-- The row of the 9-bit offset, its sign in bit 0 of `zzz`. -/
theorem n9_postbyte (c : BitVec 2) (b : BitVec 1) :
    (7#3 ++ c ++ 0#2 ++ b : Byte) = 7#3 ++ c ++ (0#2 ++ b : BitVec 3) := by
  revert c b
  decide

/-- The rows of the accumulator offsets. -/
theorem acc_postbyte (c o : BitVec 2) : (7#3 ++ c ++ 1#1 ++ o : Byte) = 7#3 ++ c ++ (1#1 ++ o : BitVec 3) := by
  revert c o
  decide

theorem append_fields_n9 (n : BitVec 9) : (n.extractLsb' 8 1 ++ n.extractLsb' 0 8 : BitVec 9) = n :=
  BitVec.extractLsb'_append_extractLsb'

/-! ## Indexed operands -/

theorem decodeIdx_of_n5 {xb : Byte} (h : xb.getLsbD 5 = false) (rest : List Byte) :
    decodeIdx (xb :: rest) = .ok (.n5 (Base.ofCode (xb.extractLsb' 6 2)) (xb.extractLsb' 0 5), rest) := by
  simp only [decodeIdx, h, if_true]

theorem decodeIdx_of_auto {xb : Byte} {r : AutoBase} (h : xb.getLsbD 5 = true)
    (hr : AutoBase.ofCode (xb.extractLsb' 6 2) = some r) (rest : List Byte) :
    decodeIdx (xb :: rest) = .ok (.auto r (xb.getLsbD 4) (xb.extractLsb' 0 4), rest) := by
  simp only [decodeIdx, h, hr, Bool.true_eq_false, if_false]

theorem decodeIdx_of_long {xb : Byte} (h : xb.getLsbD 5 = true) (hr : xb.extractLsb' 6 2 = 3#2) (rest : List Byte) :
    decodeIdx (xb :: rest) = decodeIdxLong (Base.ofCode (xb.extractLsb' 3 2)) (xb.extractLsb' 0 3) rest := by
  simp only [decodeIdx, h, (AutoBase.ofCode_eq_none_iff _).2 hr, Bool.true_eq_false, if_false]

theorem decodeIdx_long_postbyte (r : Base) (z : BitVec 3) (rest : List Byte) :
    decodeIdx ((7#3 ++ r.code ++ z : Byte) :: rest) = decodeIdxLong r z rest := by
  obtain ⟨h, hr, hc, hz⟩ := (long_postbyte_iff _ r.code z).2 rfl
  rw [decodeIdx_of_long h hr, hc, hz, Base.ofCode_code]

theorem decodeIdxLong_n9 (r : Base) (b : BitVec 1) (ff : Byte) (rest : List Byte) :
    decodeIdxLong r (0#2 ++ b) (ff :: rest) = .ok (.n9 r (b ++ ff), rest) := by
  obtain rfl | rfl := BitVec.eq_zero_or_eq_one b <;> rfl

theorem decodeIdxLong_acc (r : Base) (o : AccOffset) (rest : List Byte) :
    decodeIdxLong r (1#1 ++ o.code) rest = .ok (.acc r o, rest) := by
  cases o <;> rfl

theorem decodeIdxLong_n16 (r : Base) (n : Word) (rest : List Byte) :
    decodeIdxLong r 2#3 (hiByte n :: loByte n :: rest) = .ok (.n16 r n, rest) :=
  congrArg (fun v => Except.ok (Idx.n16 r v, rest)) (joinBytes_hiByte_loByte n)

theorem decodeIdxLong_indN16 (r : Base) (n : Word) (rest : List Byte) :
    decodeIdxLong r 3#3 (hiByte n :: loByte n :: rest) = .ok (.indN16 r n, rest) :=
  congrArg (fun v => Except.ok (Idx.indN16 r v, rest)) (joinBytes_hiByte_loByte n)

theorem decodeIdx_encodeIdx (i : Idx) (rest : List Byte) : decodeIdx (encodeIdx i ++ rest) = .ok (i, rest) := by
  cases i with
  | n5 r n =>
    obtain ⟨h, hc, hn⟩ := (n5_postbyte_iff _ r.code n).2 rfl
    exact (decodeIdx_of_n5 h rest).trans (by rw [hc, hn, Base.ofCode_code])
  | auto r post n =>
    obtain ⟨h, hc, hp, hn⟩ := (auto_postbyte_iff _ r.code post n).2 rfl
    exact (decodeIdx_of_auto h ((AutoBase.ofCode_eq_some_iff _ r).2 hc.symm) rest).trans (by rw [hp, hn])
  | n9 r n =>
    rw [encodeIdx, n9_postbyte]
    exact (decodeIdx_long_postbyte r _ _).trans ((decodeIdxLong_n9 r _ _ rest).trans (by rw [append_fields_n9]))
  | n16 r n => exact (decodeIdx_long_postbyte r 2#3 _).trans (decodeIdxLong_n16 r n rest)
  | acc r o =>
    rw [encodeIdx, acc_postbyte]
    exact (decodeIdx_long_postbyte r _ rest).trans (decodeIdxLong_acc r o rest)
  | indN16 r n => exact (decodeIdx_long_postbyte r 3#3 _).trans (decodeIdxLong_indN16 r n rest)
  | indD r => exact decodeIdx_long_postbyte r 7#3 rest

/-! ## Readers by the bytes they read -/

/-- A reader that starts after the bytes `pre`: with what it reads they are the encoding of the value it answers. -/
structure WritesBack {α : Type} (enc : α → List Byte) (pre : List Byte)
    (p : List Byte → Except DecodeError (α × List Byte)) : Prop where
  bytes : ∀ bs v rest, p bs = .ok (v, rest) → pre ++ bs = enc v ++ rest

namespace WritesBack

variable {α : Type} {enc : α → List Byte} {pre : List Byte} {p q : List Byte → Except DecodeError (α × List Byte)}

theorem ok {v : α} (h : enc v = pre) : WritesBack enc pre fun bs => .ok (v, bs) where
  bytes := fun bs w rest hw => by
    cases hw
    rw [h]

theorem error (e : DecodeError) : WritesBack enc pre fun _ => .error e := ⟨nofun⟩

theorem ite {c : Prop} [Decidable c] (hp : c → WritesBack enc pre p) (hq : ¬c → WritesBack enc pre q) :
    WritesBack enc pre fun bs => if c then p bs else q bs := by
  by_cases hc : c
  · simpa only [if_pos hc] using hp hc
  · simpa only [if_neg hc] using hq hc

theorem of_cons (hn : p [] = .error .truncated) (hc : ∀ b, WritesBack enc (pre ++ [b]) fun bs => p (b :: bs)) :
    WritesBack enc pre p where
  bytes := fun bs v rest h => by
    cases bs with
    | nil => rw [hn] at h; cases h
    | cons b bs => rw [← (hc b).bytes bs v rest h, List.append_assoc, List.singleton_append]

end WritesBack

theorem encodeIdx_n9_append (r : Base) (b : BitVec 1) (ff : Byte) :
    encodeIdx (.n9 r (b ++ ff)) = [7#3 ++ r.code ++ (0#2 ++ b : BitVec 3), ff] := by
  rw [encodeIdx, n9_postbyte, BitVec.extractLsb'_append_eq_right, BitVec.extractLsb'_append_eq_left]

theorem encodeIdx_n16_join (r : Base) (ff gg : Byte) :
    encodeIdx (.n16 r (joinBytes ff gg)) = [7#3 ++ r.code ++ 2#3, ff, gg] := by
  rw [encodeIdx, hiByte_joinBytes, loByte_joinBytes]

theorem encodeIdx_indN16_join (r : Base) (ff gg : Byte) :
    encodeIdx (.indN16 r (joinBytes ff gg)) = [7#3 ++ r.code ++ 3#3, ff, gg] := by
  rw [encodeIdx, hiByte_joinBytes, loByte_joinBytes]

/-- `011` is what the other seven leave of `zzz`. -/
theorem zzz_eq_three {z : BitVec 3} (h4 : z ≠ 4) (h5 : z ≠ 5) (h6 : z ≠ 6) (h7 : z ≠ 7) (h0 : z ≠ 0) (h1 : z ≠ 1)
    (h2 : z ≠ 2) : z = 3 := by
  bv_omega

theorem decodeIdxLong_writesBack (r : Base) (z : BitVec 3) :
    WritesBack encodeIdx [7#3 ++ r.code ++ z] (decodeIdxLong r z) := by
  refine .ite (fun h4 => .ok ?_) fun h4 => .ite (fun h5 => .ok ?_) fun h5 => .ite (fun h6 => .ok ?_) fun h6 =>
    .ite (fun h7 => .ok ?_) fun h7 => .of_cons rfl fun ff => .ite (fun h0 => .ok ?_) fun h0 =>
    .ite (fun h1 => .ok ?_) fun h1 => .of_cons rfl fun gg => .ite (fun h2 => .ok ?_) fun h2 => .ok ?_
  · rw [h4, encodeIdx, acc_postbyte]; rfl
  · rw [h5, encodeIdx, acc_postbyte]; rfl
  · rw [h6, encodeIdx, acc_postbyte]; rfl
  · rw [h7]; rfl
  · rw [h0, encodeIdx_n9_append]; rfl
  · rw [h1, encodeIdx_n9_append]; rfl
  · rw [h2, encodeIdx_n16_join]; rfl
  · rw [zzz_eq_three h4 h5 h6 h7 h0 h1 h2, encodeIdx_indN16_join]; rfl

theorem decodeIdx_writesBack : WritesBack encodeIdx [] decodeIdx := by
  refine .of_cons rfl fun xb => ⟨fun bs i rest h => ?_⟩
  replace h : decodeIdx (xb :: bs) = .ok (i, rest) := h
  cases hb : xb.getLsbD 5 with
  | false =>
    rw [decodeIdx_of_n5 hb] at h
    cases h
    exact congrArg (· :: _) ((n5_postbyte_iff xb _ _).1 ⟨hb, (Base.code_ofCode _).symm, rfl⟩)
  | true =>
    cases hr : AutoBase.ofCode (xb.extractLsb' 6 2) with
    | some r =>
      rw [decodeIdx_of_auto hb hr] at h
      cases h
      exact congrArg (· :: _) ((auto_postbyte_iff xb _ _ _).1
        ⟨hb, ((AutoBase.ofCode_eq_some_iff _ r).1 hr).symm, rfl, rfl⟩)
    | none =>
      have hrr := (AutoBase.ofCode_eq_none_iff _).1 hr
      rw [decodeIdx_of_long hb hrr] at h
      rw [← (decodeIdxLong_writesBack _ _).bytes bs i rest h]
      exact congrArg (· :: _) ((long_postbyte_iff xb _ _).1 ⟨hb, hrr, (Base.code_ofCode _).symm, rfl⟩)

/-- Indexed operands decode from exactly their encodings (R91). -/
theorem decodeIdx_eq_ok_iff (bs rest : List Byte) (i : Idx) :
    decodeIdx bs = .ok (i, rest) ↔ bs = encodeIdx i ++ rest :=
  ⟨decodeIdx_writesBack.bytes bs i rest, fun h => h ▸ decodeIdx_encodeIdx i rest⟩

theorem decodeMovIdx_eq_some_iff (xb : Byte) (i : Idx) :
    decodeMovIdx xb = some i ↔ i.movForm = true ∧ encodeIdx i = [xb] := by
  unfold decodeMovIdx
  constructor
  · intro h
    split at h
    · next j rest hj =>
      obtain ⟨hm, hji⟩ := Option.ite_none_right_eq_some.1 h
      cases hji
      have hbytes := (decodeIdx_eq_ok_iff _ _ _).1 hj
      have hlen := congrArg List.length hbytes
      rw [List.length_append, encodeIdx_length, idxSize_of_movForm hm] at hlen
      obtain rfl := List.length_eq_zero_iff.1 (Nat.add_eq_left.1 hlen.symm)
      exact ⟨hm, by rw [hbytes, List.append_nil]⟩
    · cases h
  · rintro ⟨hm, hi⟩
    have hj : decodeIdx [xb] = .ok (i, []) := (decodeIdx_eq_ok_iff _ _ _).2 (by rw [hi, List.append_nil])
    simp only [hj, hm, if_true]

/-! ## Rows of the opcode map by the bytes they read -/

/-- The row's reader answers exactly the instructions `f a`, each from exactly the bytes `enc a`. -/
def Reads {α : Type} (p : Parser) (enc : α → List Byte) (f : α → Instr) : Prop :=
  ∀ bs v rest, p bs = .ok (v, rest) ↔ ∃ a, v = f a ∧ bs = enc a ++ rest

/-- An indexed operand of a move (R95). -/
abbrev MovIdx := { i : Idx // i.movForm = true }

theorem Reads.of_ok {α : Type} {p : Parser} {enc : α → List Byte} {f : α → Instr}
    (hp : ∀ bs v rest, p bs = .ok (v, rest) → ∃ a, v = f a ∧ bs = enc a ++ rest)
    (hf : ∀ a rest, p (enc a ++ rest) = .ok (f a, rest)) : Reads p enc f := by
  refine fun bs v rest => ⟨hp bs v rest, ?_⟩
  rintro ⟨a, rfl, rfl⟩
  exact hf a rest

theorem encodeWord_joinBytes (b1 b0 : Byte) : encodeWord (joinBytes b1 b0) = [b1, b0] := by
  rw [encodeWord, hiByte_joinBytes, loByte_joinBytes]

theorem parseInh_reads (i : Instr) : Reads (parseInh i) (fun _ : Unit => []) fun _ => i :=
  .of_ok (fun _ _ _ h => by cases h; exact ⟨(), rfl, rfl⟩) fun _ _ => rfl

theorem parseByte_reads (f : Byte → Instr) : Reads (parseByte f) (fun b => [b]) f :=
  .of_ok (fun bs _ _ h => by
    cases bs with
    | nil => cases h
    | cons b bs => cases h; exact ⟨b, rfl, rfl⟩) fun _ _ => rfl

theorem parseWord_reads (f : Word → Instr) : Reads (parseWord f) encodeWord f :=
  .of_ok (fun bs _ _ h => by
    rcases bs with _ | ⟨b1, _ | ⟨b0, bs⟩⟩ <;> cases h
    exact ⟨joinBytes b1 b0, rfl, by rw [encodeWord_joinBytes]; rfl⟩) fun w rest =>
      congrArg (fun v => Except.ok (f v, rest)) (joinBytes_hiByte_loByte w)

theorem parseIdx_reads (f : Idx → Instr) : Reads (parseIdx f) encodeIdx f :=
  .of_ok (fun bs _ _ h => by
    unfold parseIdx at h
    split at h
    · next i rest hi =>
      cases h
      exact ⟨i, rfl, (decodeIdx_eq_ok_iff _ _ _).1 hi⟩
    · cases h) fun i rest => by rw [parseIdx, decodeIdx_encodeIdx]

theorem parseReg_reads : Reads parseReg (fun q : Bool × Reg × Reg => [encodeReg q.1 q.2.1 q.2.2])
    fun q => if q.1 then .exg q.2.1 q.2.2 else .tfr q.2.1 q.2.2 := by
  refine .of_ok (fun bs v rest h => ?_) fun ⟨x, r1, r2⟩ rest => ?_
  · unfold parseReg at h
    split at h
    · cases h
    · next eb bs =>
      split at h
      · cases h
      · next h3 =>
        split at h
        · next r1 r2 h1 h2 =>
          cases h
          refine ⟨(eb.getLsbD 7, r1, r2), rfl, congrArg (· :: _) ?_⟩
          exact (reg_postbyte_iff eb _ _ _).1 ⟨Bool.eq_false_of_not_eq_true h3, rfl,
            ((Reg.ofCode_eq_some_iff _ _).1 h1).symm, ((Reg.ofCode_eq_some_iff _ _).1 h2).symm⟩
        · cases h
  · obtain ⟨h3, h7, hp, hq⟩ := (reg_postbyte_iff (encodeReg x r1 r2) x r1.code r2.code).2 rfl
    simp only [List.singleton_append, parseReg, h3, h7, (Reg.ofCode_eq_some_iff _ _).2 hp.symm,
      (Reg.ofCode_eq_some_iff _ _).2 hq.symm, Bool.false_eq_true, if_false]

theorem movWithIdx_eq_ok_iff (xb : Byte) (f : Idx → Instr) (bs rest : List Byte) (v : Instr) :
    movWithIdx xb f bs = .ok (v, rest) ↔ ∃ i : MovIdx, v = f i ∧ encodeIdx i = [xb] ∧ bs = rest := by
  unfold movWithIdx
  constructor
  · intro h
    split at h
    · next i hi =>
      cases h
      obtain ⟨hm, he⟩ := (decodeMovIdx_eq_some_iff _ _).1 hi
      exact ⟨⟨i, hm⟩, rfl, he, rfl⟩
    · cases h
  · rintro ⟨⟨i, hm⟩, rfl, he, rfl⟩
    simp only [(decodeMovIdx_eq_some_iff xb i).2 ⟨hm, he⟩]

/-- The one byte of a move's indexed operand. -/
theorem exists_encodeIdx_of_movForm {i : Idx} (hm : i.movForm = true) : ∃ xb, encodeIdx i = [xb] :=
  List.length_eq_one_iff.1 (by rw [encodeIdx_length, idxSize_of_movForm hm])

theorem parseIdxByte_reads (f : Idx → Byte → Instr) :
    Reads (parseIdxByte f) (fun q : MovIdx × Byte => encodeIdx q.1 ++ [q.2]) fun q => f q.1 q.2 := by
  refine .of_ok (fun bs v rest h => ?_) fun ⟨i, b⟩ rest => ?_
  · rcases bs with _ | ⟨xb, _ | ⟨b, bs⟩⟩
    · cases h
    · cases h
    · obtain ⟨i, rfl, he, rfl⟩ := (movWithIdx_eq_ok_iff xb _ _ _ _).1 h
      exact ⟨(i, b), rfl, by rw [he]; rfl⟩
  · obtain ⟨xb, he⟩ := exists_encodeIdx_of_movForm i.2
    rw [he]
    exact (movWithIdx_eq_ok_iff xb _ _ _ _).2 ⟨i, rfl, he, rfl⟩

theorem parseIdxWord_reads (f : Idx → Word → Instr) :
    Reads (parseIdxWord f) (fun q : MovIdx × Word => encodeIdx q.1 ++ encodeWord q.2) fun q => f q.1 q.2 := by
  refine .of_ok (fun bs v rest h => ?_) fun ⟨i, w⟩ rest => ?_
  · rcases bs with _ | ⟨xb, _ | ⟨b1, _ | ⟨b0, bs⟩⟩⟩
    · cases h
    · cases h
    · cases h
    · obtain ⟨i, rfl, he, rfl⟩ := (movWithIdx_eq_ok_iff xb _ _ _ _).1 h
      exact ⟨(i, joinBytes b1 b0), rfl, by rw [he, encodeWord_joinBytes]; rfl⟩
  · obtain ⟨xb, he⟩ := exists_encodeIdx_of_movForm i.2
    rw [he]
    exact (movWithIdx_eq_ok_iff xb _ _ _ _).2 ⟨i, by rw [joinBytes_hiByte_loByte], he, rfl⟩

theorem parseIdxIdx_reads (f : Idx → Idx → Instr) :
    Reads (parseIdxIdx f) (fun q : MovIdx × MovIdx => encodeIdx q.1 ++ encodeIdx q.2) fun q => f q.1 q.2 := by
  refine .of_ok (fun bs v rest h => ?_) fun ⟨i, j⟩ rest => ?_
  · rcases bs with _ | ⟨xb1, _ | ⟨xb2, bs⟩⟩
    · cases h
    · cases h
    · simp only [parseIdxIdx] at h
      split at h
      · next i j hi hj =>
        cases h
        obtain ⟨hm, he⟩ := (decodeMovIdx_eq_some_iff _ _).1 hi
        obtain ⟨hm', he'⟩ := (decodeMovIdx_eq_some_iff _ _).1 hj
        exact ⟨(⟨i, hm⟩, ⟨j, hm'⟩), rfl, by rw [he, he']; rfl⟩
      · cases h
  · obtain ⟨xb1, he⟩ := exists_encodeIdx_of_movForm i.2
    obtain ⟨xb2, he'⟩ := exists_encodeIdx_of_movForm j.2
    simp only [he, he', List.cons_append, List.nil_append, parseIdxIdx,
      (decodeMovIdx_eq_some_iff xb1 i).2 ⟨i.2, he⟩, (decodeMovIdx_eq_some_iff xb2 j).2 ⟨j.2, he'⟩]

theorem parseByteWord_reads (f : Byte → Word → Instr) :
    Reads (parseByteWord f) (fun q : Byte × Word => q.1 :: encodeWord q.2) fun q => f q.1 q.2 :=
  .of_ok (fun bs _ _ h => by
    rcases bs with _ | ⟨b, _ | ⟨b1, _ | ⟨b0, bs⟩⟩⟩ <;> cases h
    exact ⟨(b, joinBytes b1 b0), rfl, by rw [encodeWord_joinBytes]; rfl⟩) fun q rest =>
      congrArg (fun v => Except.ok (f q.1 v, rest)) (joinBytes_hiByte_loByte q.2)

theorem parseWordWord_reads (f : Word → Word → Instr) :
    Reads (parseWordWord f) (fun q : Word × Word => encodeWord q.1 ++ encodeWord q.2) fun q => f q.1 q.2 :=
  .of_ok (fun bs _ _ h => by
    rcases bs with _ | ⟨a1, _ | ⟨a0, _ | ⟨b1, _ | ⟨b0, bs⟩⟩⟩⟩ <;> cases h
    exact ⟨(joinBytes a1 a0, joinBytes b1 b0), rfl, by rw [encodeWord_joinBytes, encodeWord_joinBytes]; rfl⟩)
    fun q rest => congrArg₂ (fun v w => Except.ok (f v w, rest)) (joinBytes_hiByte_loByte q.1)
      (joinBytes_hiByte_loByte q.2)

/-! ## Opcodes -/

/-- A row of page 1 gives its opcode's bytes their instruction. -/
theorem decode_page1 {α : Type} {op : Byte} {p : Parser} {enc : α → List Byte} {f : α → Instr}
    (hrow : page1.lookup op.toNat = some p) (hp : Reads p enc f) (a : α) (rest : List Byte) :
    decode (op :: enc a ++ rest) = .ok (canonical (f a), rest) := by
  have hop : op ≠ 0x18#8 := by
    rintro rfl
    cases hrow
  have hread : p (enc a ++ rest) = .ok (f a, rest) := (hp _ _ _).2 ⟨a, rfl, rfl⟩
  simp only [decode, decodeGeneral, List.cons_append, if_neg hop, decodeWith, hrow, hread]

/-- A row of page 2 gives its opcode's bytes after 0x18 their instruction. -/
theorem decode_page2 {α : Type} {op : Byte} {p : Parser} {enc : α → List Byte} {f : α → Instr}
    (hrow : page2.lookup op.toNat = some p) (hp : Reads p enc f) (a : α) (rest : List Byte) :
    decode (0x18#8 :: op :: enc a ++ rest) = .ok (canonical (f a), rest) := by
  have hread : p (enc a ++ rest) = .ok (f a, rest) := (hp _ _ _).2 ⟨a, rfl, rfl⟩
  simp only [decode, decodeGeneral, List.cons_append, if_true, decodeWith, hrow, hread]

/-- The three rows of a memory operand (R72). -/
structure EaRows (dir ext idx : Byte) (f : Ea → Instr) : Prop where
  dir : page1.lookup dir.toNat = some (parseByte fun v => f (.dir v))
  ext : page1.lookup ext.toNat = some (parseWord fun v => f (.ext v))
  idx : page1.lookup idx.toNat = some (parseIdx fun v => f (.idx v))

theorem EaRows.decode {dir ext idx : Byte} {f : Ea → Instr} (h : EaRows dir ext idx f) (ea : Ea) (rest : List Byte) :
    decode (encodeEa dir ext idx ea ++ rest) = .ok (canonical (f ea), rest) := by
  cases ea with
  | dir v => exact decode_page1 h.dir (parseByte_reads _) v rest
  | ext v => exact decode_page1 h.ext (parseWord_reads _) v rest
  | idx v => exact decode_page1 h.idx (parseIdx_reads _) v rest

/-- The two rows of an operand without a direct form (R80). -/
structure EaXIRows (ext idx : Byte) (f : EaXI → Instr) : Prop where
  ext : page1.lookup ext.toNat = some (parseWord fun v => f (.ext v))
  idx : page1.lookup idx.toNat = some (parseIdx fun v => f (.idx v))

theorem EaXIRows.decode {ext idx : Byte} {f : EaXI → Instr} (h : EaXIRows ext idx f) (ea : EaXI) (rest : List Byte) :
    decode (encodeEaXI ext idx ea ++ rest) = .ok (canonical (f ea), rest) := by
  cases ea with
  | ext v => exact decode_page1 h.ext (parseWord_reads _) v rest
  | idx v => exact decode_page1 h.idx (parseIdx_reads _) v rest

theorem decode_encodeSrc8 {imm dir ext idx : Byte} {f : Src8 → Instr}
    (himm : page1.lookup imm.toNat = some (parseByte fun v => f (.imm v)))
    (hmem : EaRows dir ext idx fun ea => f (.mem ea)) (op : Src8) (rest : List Byte) :
    decode (encodeSrc8 imm dir ext idx op ++ rest) = .ok (canonical (f op), rest) := by
  cases op with
  | imm v => exact decode_page1 himm (parseByte_reads _) v rest
  | mem ea => exact hmem.decode ea rest

theorem decode_encodeSrc16 {imm dir ext idx : Byte} {f : Src16 → Instr}
    (himm : page1.lookup imm.toNat = some (parseWord fun v => f (.imm v)))
    (hmem : EaRows dir ext idx fun ea => f (.mem ea)) (op : Src16) (rest : List Byte) :
    decode (encodeSrc16 imm dir ext idx op ++ rest) = .ok (canonical (f op), rest) := by
  cases op with
  | imm v => exact decode_page1 himm (parseWord_reads _) v rest
  | mem ea => exact hmem.decode ea rest

theorem decode_encodeReg (exchange : Bool) (r1 r2 : Reg) (rest : List Byte) :
    decode ([0xB7#8, encodeReg exchange r1 r2] ++ rest) =
      .ok (canonical (if exchange then .exg r1 r2 else .tfr r1 r2), rest) :=
  decode_page1 (op := 0xB7#8) rfl parseReg_reads (exchange, r1, r2) rest

theorem decode_encodeMovb (src : MovSrc8) (dst : MovDst) (hs : src.movForm = true) (hd : dst.movForm = true)
    (rest : List Byte) : decode (encodeMovb src dst ++ rest) = .ok (.movb src dst, rest) := by
  cases dst with
  | idx j =>
    cases src with
    | imm v => exact decode_page2 (op := 0x08#8) rfl (parseIdxByte_reads _) (⟨j, hd⟩, v) rest
    | ext a => exact decode_page2 (op := 0x09#8) rfl (parseIdxWord_reads _) (⟨j, hd⟩, a) rest
    | idx i => exact decode_page2 (op := 0x0A#8) rfl (parseIdxIdx_reads _) (⟨i, hs⟩, ⟨j, hd⟩) rest
  | ext b =>
    cases src with
    | imm v => exact decode_page2 (op := 0x0B#8) rfl (parseByteWord_reads _) (v, b) rest
    | ext a => exact decode_page2 (op := 0x0C#8) rfl (parseWordWord_reads _) (a, b) rest
    | idx i => exact decode_page2 (op := 0x0D#8) rfl (parseIdxWord_reads _) (⟨i, hs⟩, b) rest

theorem decode_encodeMovw (src : MovSrc16) (dst : MovDst) (hs : src.movForm = true) (hd : dst.movForm = true)
    (rest : List Byte) : decode (encodeMovw src dst ++ rest) = .ok (.movw src dst, rest) := by
  cases dst with
  | idx j =>
    cases src with
    | imm v => exact decode_page2 (op := 0x00#8) rfl (parseIdxWord_reads _) (⟨j, hd⟩, v) rest
    | ext a => exact decode_page2 (op := 0x01#8) rfl (parseIdxWord_reads _) (⟨j, hd⟩, a) rest
    | idx i => exact decode_page2 (op := 0x02#8) rfl (parseIdxIdx_reads _) (⟨i, hs⟩, ⟨j, hd⟩) rest
  | ext b =>
    cases src with
    | imm v => exact decode_page2 (op := 0x03#8) rfl (parseWordWord_reads _) (v, b) rest
    | ext a => exact decode_page2 (op := 0x04#8) rfl (parseWordWord_reads _) (a, b) rest
    | idx i => exact decode_page2 (op := 0x05#8) rfl (parseIdxWord_reads _) (⟨i, hs⟩, b) rest

/-- The bytes of SEX are those of its transfer, which the decoder names SEX (R98). -/
theorem canonical_sex_general (r1 : Reg8) (r2 : Reg16) : canonical (.tfr (.r8 r1) (.r16 r2)) = .sex r1 r2 := by
  cases r1 <;> rfl

/-- The rows of the opcode map hold every instruction's bytes; only a move's shut-out forms (R95) have none. -/
theorem decode_encode {i : Instr} (h : WellFormed i = true) (rest : List Byte) :
    decode (encode i ++ rest) = .ok (canonical i, rest) := by
  cases i with
  | ldaa op | ldab op | adca op | adcb op | adda op | addb op | sbca op | sbcb op | suba op | subb op | cmpa op
  | cmpb op | anda op | andb op | eora op | eorb op | oraa op | orab op =>
    exact decode_encodeSrc8 rfl ⟨rfl, rfl, rfl⟩ op rest
  | ldd op | lds op | ldx op | ldy op | addd op | subd op | cpd op | cps op | cpx op | cpy op =>
    exact decode_encodeSrc16 rfl ⟨rfl, rfl, rfl⟩ op rest
  | staa ea | stab ea | std ea | sts ea | stx ea | sty ea => exact EaRows.decode ⟨rfl, rfl, rfl⟩ ea rest
  | clr ea | tst ea | dec ea | inc ea | com ea | neg ea | lsr ea | asl ea | asr ea | rol ea | ror ea =>
    exact EaXIRows.decode ⟨rfl, rfl⟩ ea rest
  | lsl ea => exact EaXIRows.decode (f := .asl) ⟨rfl, rfl⟩ ea rest
  | leas x => exact decode_page1 (op := 0x1B#8) rfl (parseIdx_reads _) x rest
  | leax x => exact decode_page1 (op := 0x1A#8) rfl (parseIdx_reads _) x rest
  | leay x => exact decode_page1 (op := 0x19#8) rfl (parseIdx_reads _) x rest
  | andcc ii => exact decode_page1 (op := 0x10#8) rfl (parseByte_reads _) ii rest
  | orcc ii => exact decode_page1 (op := 0x14#8) rfl (parseByte_reads _) ii rest
  | tfr r1 r2 => exact decode_encodeReg false r1 r2 rest
  | exg r1 r2 => exact decode_encodeReg true r1 r2 rest
  | sex r1 r2 =>
    exact (decode_encodeReg false (.r8 r1) (.r16 r2) rest).trans
      (congrArg (fun j => Except.ok (j, rest)) (canonical_sex_general r1 r2))
  | movb src dst =>
    obtain ⟨hs, hd⟩ := Bool.and_eq_true_iff.1 h
    exact decode_encodeMovb src dst hs hd rest
  | movw src dst =>
    obtain ⟨hs, hd⟩ := Bool.and_eq_true_iff.1 h
    exact decode_encodeMovw src dst hs hd rest
  | _ => rfl

/-! ## Rows of the opcode map by their encodings -/

theorem Reads.writesBack_iff {α : Type} {p : Parser} {enc : α → List Byte} {f : α → Instr} (hp : Reads p enc f)
    (pre : List Byte) : WritesBack encode pre p ↔ ∀ a, encode (f a) = pre ++ enc a := by
  constructor
  · intro h a
    have := h.bytes (enc a) (f a) [] ((hp _ _ _).2 ⟨a, rfl, (List.append_nil _).symm⟩)
    rwa [List.append_nil, eq_comm] at this
  · refine fun h => ⟨fun bs v rest hv => ?_⟩
    obtain ⟨a, rfl, rfl⟩ := (hp bs v rest).1 hv
    rw [h, List.append_assoc]

section

variable {pre : List Byte}

@[simp] theorem parseInh_writesBack_iff {i : Instr} : WritesBack encode pre (parseInh i) ↔ encode i = pre :=
  ((parseInh_reads i).writesBack_iff pre).trans (by simp)

@[simp] theorem parseByte_writesBack_iff {f : Byte → Instr} :
    WritesBack encode pre (parseByte f) ↔ ∀ b, encode (f b) = pre ++ [b] := (parseByte_reads f).writesBack_iff pre

@[simp] theorem parseWord_writesBack_iff {f : Word → Instr} :
    WritesBack encode pre (parseWord f) ↔ ∀ w, encode (f w) = pre ++ encodeWord w :=
  (parseWord_reads f).writesBack_iff pre

@[simp] theorem parseIdx_writesBack_iff {f : Idx → Instr} :
    WritesBack encode pre (parseIdx f) ↔ ∀ i, encode (f i) = pre ++ encodeIdx i :=
  (parseIdx_reads f).writesBack_iff pre

@[simp] theorem parseReg_writesBack : WritesBack encode [0xB7#8] parseReg :=
  (parseReg_reads.writesBack_iff _).2 fun ⟨x, r1, r2⟩ => by cases x <;> rfl

@[simp] theorem parseIdxByte_writesBack_iff {f : Idx → Byte → Instr} : WritesBack encode pre (parseIdxByte f) ↔
    ∀ q : MovIdx × Byte, encode (f q.1 q.2) = pre ++ (encodeIdx q.1 ++ [q.2]) :=
  (parseIdxByte_reads f).writesBack_iff pre

@[simp] theorem parseIdxWord_writesBack_iff {f : Idx → Word → Instr} : WritesBack encode pre (parseIdxWord f) ↔
    ∀ q : MovIdx × Word, encode (f q.1 q.2) = pre ++ (encodeIdx q.1 ++ encodeWord q.2) :=
  (parseIdxWord_reads f).writesBack_iff pre

@[simp] theorem parseIdxIdx_writesBack_iff {f : Idx → Idx → Instr} : WritesBack encode pre (parseIdxIdx f) ↔
    ∀ q : MovIdx × MovIdx, encode (f q.1 q.2) = pre ++ (encodeIdx q.1 ++ encodeIdx q.2) :=
  (parseIdxIdx_reads f).writesBack_iff pre

@[simp] theorem parseByteWord_writesBack_iff {f : Byte → Word → Instr} : WritesBack encode pre (parseByteWord f) ↔
    ∀ q : Byte × Word, encode (f q.1 q.2) = pre ++ q.1 :: encodeWord q.2 := (parseByteWord_reads f).writesBack_iff pre

@[simp] theorem parseWordWord_writesBack_iff {f : Word → Word → Instr} : WritesBack encode pre (parseWordWord f) ↔
    ∀ q : Word × Word, encode (f q.1 q.2) = pre ++ (encodeWord q.1 ++ encodeWord q.2) :=
  (parseWordWord_reads f).writesBack_iff pre

/-- Every row of the page reads what its opcode, after the bytes `pre`, encodes. -/
def PageWritesBack (pre : List Byte) (page : List (Nat × Parser)) : Prop :=
  ∀ row ∈ page, WritesBack encode (pre ++ [BitVec.ofNat 8 row.1]) row.2

@[simp] theorem pageWritesBack_nil : PageWritesBack pre [] := nofun

@[simp] theorem pageWritesBack_cons (row : Nat × Parser) (page : List (Nat × Parser)) :
    PageWritesBack pre (row :: page) ↔
      WritesBack encode (pre ++ [BitVec.ofNat 8 row.1]) row.2 ∧ PageWritesBack pre page := List.forall_mem_cons

@[simp] theorem pageWritesBack_append (l m : List (Nat × Parser)) :
    PageWritesBack pre (l ++ m) ↔ PageWritesBack pre l ∧ PageWritesBack pre m := List.forall_mem_append

theorem page1_writesBack : PageWritesBack [] page1 := by
  simp only [page1, pageWritesBack_append]
  simp [page1Row0, page1Row1, page1Row3, page1Row4, page1Row5, page1Row6, page1Row7, page1Row8, page1Row9, page1RowA,
    page1RowB, page1RowC, page1RowD, page1RowE, page1RowF, encode, encodeEa, encodeEaXI, encodeSrc8, encodeSrc16]

theorem page2_writesBack : PageWritesBack [0x18#8] page2 := by
  simp [page2, page2Moves, page2Inherent, encode, encodeMovb, encodeMovw]

theorem decodeWith_writesBack {page : List (Nat × Parser)} (h : PageWritesBack pre page) (op : Byte) :
    WritesBack encode (pre ++ [op]) (decodeWith page op) := by
  unfold decodeWith
  induction page with
  | nil => exact .error _
  | cons row page ih =>
    obtain ⟨hrow, hpage⟩ := (pageWritesBack_cons row page).1 h
    rw [List.lookup_cons]
    cases hop : op.toNat == row.1 with
    | true =>
      rw [← beq_iff_eq.1 hop, BitVec.ofNat_toNat, BitVec.setWidth_eq] at hrow
      exact hrow
    | false => exact ih hpage

end

theorem decodeGeneral_writesBack : WritesBack encode [] decodeGeneral :=
  .of_cons rfl fun op => .ite (fun hop => hop ▸ .of_cons rfl fun op2 => decodeWith_writesBack page2_writesBack op2)
    fun _ => decodeWith_writesBack page1_writesBack op

/-! ## Names (R98, R99) -/

/-- `j` is the name the decoder gives the bytes of the other instruction `i` (R98, R99). -/
inductive OtherName : Instr → Instr → Prop where
  | tap : OtherName .tap (.tfr (.r8 .a) (.r8 .ccr))
  | tpa : OtherName .tpa (.tfr (.r8 .ccr) (.r8 .a))
  | tsx : OtherName .tsx (.tfr (.r16 .sp) (.r16 .x))
  | tsy : OtherName .tsy (.tfr (.r16 .sp) (.r16 .y))
  | txs : OtherName .txs (.tfr (.r16 .x) (.r16 .sp))
  | tys : OtherName .tys (.tfr (.r16 .y) (.r16 .sp))
  | xgdx : OtherName .xgdx (.exg (.r16 .d) (.r16 .x))
  | xgdy : OtherName .xgdy (.exg (.r16 .d) (.r16 .y))
  | clc : OtherName .clc (.andcc 0xFE#8)
  | cli : OtherName .cli (.andcc 0xEF#8)
  | clv : OtherName .clv (.andcc 0xFD#8)
  | abx : OtherName .abx (.leax (.acc .x .b))
  | aby : OtherName .aby (.leay (.acc .y .b))
  | des : OtherName .des (.leas (.n5 .sp 31#5))
  | ins : OtherName .ins (.leas (.n5 .sp 1#5))
  | sex (r1 : Reg8) (r2 : Reg16) : OtherName (.sex r1 r2) (.tfr (.r8 r1) (.r16 r2))
  | asl (ea : EaXI) : OtherName (.asl ea) (.lsl ea)
  | asla : OtherName .asla .lsla
  | aslb : OtherName .aslb .lslb
  | asld : OtherName .asld .lsld

theorem OtherName.encode_eq {i j : Instr} (h : OtherName j i) : encode j = encode i := by
  cases h <;> rfl

theorem OtherName.canonical_eq {i j : Instr} (h : OtherName j i) : canonical j = j := by
  cases h <;> rfl

theorem nameTfr_eq_or (p q : Reg) : nameTfr p q = .tfr p q ∨ OtherName (nameTfr p q) (.tfr p q) := by
  unfold nameTfr
  split
  · exact .inr .tap
  · exact .inr .tpa
  · exact .inl rfl
  · exact .inr (.sex _ _)
  · exact .inl rfl
  · exact .inr .tsx
  · exact .inr .tsy
  · exact .inr .txs
  · exact .inr .tys
  · exact .inl rfl

/-- The decoder's name for an instruction's bytes is the instruction, or its other name. -/
theorem canonical_eq_or (i : Instr) : canonical i = i ∨ OtherName (canonical i) i := by
  cases i with
  | leas x =>
    simp only [canonical]
    split_ifs with h1 h2
    · subst h1; exact .inr .des
    · subst h2; exact .inr .ins
    · exact .inl rfl
  | leax x =>
    simp only [canonical]
    split_ifs with h
    · subst h; exact .inr .abx
    · exact .inl rfl
  | leay x =>
    simp only [canonical]
    split_ifs with h
    · subst h; exact .inr .aby
    · exact .inl rfl
  | andcc ii =>
    simp only [canonical, nameAndcc]
    split_ifs with h1 h2 h3
    · subst h1; exact .inr .clc
    · subst h2; exact .inr .cli
    · subst h3; exact .inr .clv
    · exact .inl rfl
  | exg p q =>
    simp only [canonical, nameExg]
    split_ifs with h1 h2
    · obtain ⟨rfl, rfl⟩ := h1
      exact .inr .xgdx
    · obtain ⟨rfl, rfl⟩ := h2
      exact .inr .xgdy
    · exact .inl rfl
  | tfr p q => exact nameTfr_eq_or p q
  | lsl ea => exact .inr (.asl ea)
  | lsla => exact .inr .asla
  | lslb => exact .inr .aslb
  | lsld => exact .inr .asld
  | _ => exact .inl rfl

theorem encode_canonical (i : Instr) : encode (canonical i) = encode i := by
  obtain h | h := canonical_eq_or i
  · rw [h]
  · exact h.encode_eq

theorem canonical_canonical (i : Instr) : canonical (canonical i) = canonical i := by
  obtain h | h := canonical_eq_or i
  · rw [h, h]
  · exact h.canonical_eq

/-- Settles O1: every row of the opcode map reads back what the encoder writes under its opcode. -/
theorem decodeEncodeGivesTheInstruction : Obligations.DecodeEncodeGivesTheInstruction :=
  fun _ rest h => decode_encode h rest

/-- Settles O2: every row of the opcode map writes back what it reads, and another name changes no byte. -/
theorem decodedBytesAreTheEncoding : Obligations.DecodedBytesAreTheEncoding := by
  intro bs rest i h
  unfold decode at h
  split at h
  · next j r hj =>
    cases h
    exact ⟨by rw [encode_canonical]; exact decodeGeneral_writesBack.bytes bs j rest hj, canonical_canonical j⟩
  · cases h

end Sys2Proof
end

section
/-! SUPPORT. An instruction of R98 or R99 with two names means the same under both. -/

namespace Sys2Proof

open Sys2Proof.Machine

/-- The offset of DES's bytes is -1. -/
theorem add_sext16_neg_one (v : Word) : v + sext16 31#5 = v - 1#16 := by
  have h : sext16 31#5 = -1#16 := by decide
  rw [h, BitVec.sub_eq_add_neg]

theorem OtherName.exec_eq {i j : Instr} (h : OtherName j i) (s : State) : exec j s = exec i s := by
  cases h with
  | des => exact congrArg (fun v => finish 2 s (s.setSp v)) (add_sext16_neg_one s.sp).symm
  | _ => rfl

/-- Settles O6: the list holds the other names of R98, and the decoder's name is the instruction or another name. -/
theorem aliasesAreTheirGeneralInstruction : Obligations.AliasesAreTheirGeneralInstruction := by
  refine ⟨?aliases, fun r1 r2 => ⟨rfl, (OtherName.sex r1 r2).exec_eq⟩, fun i s => ⟨?meaning, encode_canonical i⟩⟩
  case aliases =>
    simp only [List.forall_mem_cons]
    exact ⟨⟨rfl, rfl, OtherName.tap.exec_eq⟩, ⟨rfl, rfl, OtherName.tpa.exec_eq⟩, ⟨rfl, rfl, OtherName.tsx.exec_eq⟩,
      ⟨rfl, rfl, OtherName.tsy.exec_eq⟩, ⟨rfl, rfl, OtherName.txs.exec_eq⟩, ⟨rfl, rfl, OtherName.tys.exec_eq⟩,
      ⟨rfl, rfl, OtherName.xgdx.exec_eq⟩, ⟨rfl, rfl, OtherName.xgdy.exec_eq⟩, ⟨rfl, rfl, OtherName.clc.exec_eq⟩,
      ⟨rfl, rfl, OtherName.cli.exec_eq⟩, ⟨rfl, rfl, OtherName.clv.exec_eq⟩, ⟨rfl, rfl, OtherName.abx.exec_eq⟩,
      ⟨rfl, rfl, OtherName.aby.exec_eq⟩, ⟨rfl, rfl, OtherName.des.exec_eq⟩, ⟨rfl, rfl, OtherName.ins.exec_eq⟩,
      List.forall_mem_nil _⟩
  case meaning =>
    obtain h | h := canonical_eq_or i
    · rw [h]
    · exact h.exec_eq s

end Sys2Proof
end

section
/-! SUPPORT. The postbyte table by numbers (R83 to R91), and the bytes no row of the opcode maps gives an instruction
(R74, R75, R93, R104). -/

namespace Sys2Proof

open Sys2Proof.Machine

/-! ## Fields by numbers -/

theorem getLsbD_eq_decide_mod (xb : Byte) (k : Nat) :
    xb.getLsbD k = decide (xb.toNat / 2 ^ k % 2 = 1) := Nat.testBit_eq_decide_div_mod_eq

theorem extractLsb'_toNat_eq (xb : Byte) (k n : Nat) : (xb.extractLsb' k n).toNat = xb.toNat / 2 ^ k % 2 ^ n := by
  rw [BitVec.extractLsb'_toNat, Nat.shiftRight_eq_div_pow]

theorem extractLsb'_zero_eq_ofNat (xb : Byte) (n : Nat) : xb.extractLsb' 0 n = BitVec.ofNat n (xb.toNat % 2 ^ n) := by
  apply BitVec.eq_of_toNat_eq
  rw [extractLsb'_toNat_eq, BitVec.toNat_ofNat, pow_zero, Nat.div_one, Nat.mod_mod]

theorem Base.ofCode_eq (c : BitVec 2) : Base.ofCode c =
    if c.toNat = 0 then .x else if c.toNat = 1 then .y else if c.toNat = 2 then .sp else .pc := by
  revert c
  decide

/-- The automatic modes take the base of `rr`, but for PC (R85). -/
theorem AutoBase.ofCode_of_ne {c : BitVec 2} (h : c ≠ 3#2) : AutoBase.ofCode c =
    some (if Base.ofCode c = .x then .x else if Base.ofCode c = .y then .y else .sp) := by
  revert c
  decide

theorem append_zero_eq (ff : Byte) : (0#1 ++ ff : BitVec 9) = BitVec.ofNat 9 ff.toNat := by
  revert ff
  decide

theorem append_one_eq (ff : Byte) : (1#1 ++ ff : BitVec 9) = BitVec.ofNat 9 (256 + ff.toNat) := by
  revert ff
  decide

theorem joinBytes_eq_ofNat (hi lo : Byte) : joinBytes hi lo = BitVec.ofNat 16 (256 * hi.toNat + lo.toNat) := by
  rw [Nat.mul_comm, ← joinBytes_toNat, BitVec.ofNat_toNat, BitVec.setWidth_eq]

theorem zzz_cases (z : BitVec 3) : z = 0 ∨ z = 1 ∨ z = 2 ∨ z = 3 ∨ z = 4 ∨ z = 5 ∨ z = 6 ∨ z = 7 := by
  revert z
  decide

/-- The eight rows `111rrzzz` by the number `zzz`. -/
theorem decodeIdxLong_eq (r : Base) (z : BitVec 3) (e f : Byte) (rest : List Byte) :
    decodeIdxLong r z (e :: f :: rest) =
      if z.toNat = 0 then .ok (.n9 r (BitVec.ofNat 9 e.toNat), f :: rest)
      else if z.toNat = 1 then .ok (.n9 r (BitVec.ofNat 9 (256 + e.toNat)), f :: rest)
      else if z.toNat = 2 then .ok (.n16 r (BitVec.ofNat 16 (256 * e.toNat + f.toNat)), rest)
      else if z.toNat = 3 then .ok (.indN16 r (BitVec.ofNat 16 (256 * e.toNat + f.toNat)), rest)
      else if z.toNat = 4 then .ok (.acc r .a, e :: f :: rest)
      else if z.toNat = 5 then .ok (.acc r .b, e :: f :: rest)
      else if z.toNat = 6 then .ok (.acc r .d, e :: f :: rest)
      else .ok (.indD r, e :: f :: rest) := by
  rw [← append_zero_eq, ← append_one_eq, ← joinBytes_eq_ofNat]
  obtain rfl | rfl | rfl | rfl | rfl | rfl | rfl | rfl := zzz_cases z <;> rfl

/-- The field of the postbyte that holds its base (R83, R91). -/
def baseField (xb : Byte) : BitVec 2 := if xb.toNat < 224 then xb.extractLsb' 6 2 else xb.extractLsb' 3 2

theorem baseField_toNat (xb : Byte) :
    (baseField xb).toNat = if xb.toNat < 224 then xb.toNat / 64 else xb.toNat / 8 % 4 := by
  have := xb.isLt
  unfold baseField
  split
  · rw [extractLsb'_toNat_eq]; omega
  · rw [extractLsb'_toNat_eq]; rfl

/-- Settles O3: the fields of the postbyte by numbers, in each row of the decoder. -/
theorem everyPostbyteHasItsRow : Obligations.EveryPostbyteHasItsRow := by
  intro xb e f rest
  have hlt := xb.isLt
  have hbit : xb.getLsbD 5 = decide (32 ≤ xb.toNat % 64) := by
    rw [getLsbD_eq_decide_mod, decide_eq_decide]; omega
  have hrr : (xb.extractLsb' 6 2).toNat = xb.toNat / 64 := by
    rw [extractLsb'_toNat_eq]; omega
  refine ⟨Base.ofCode (baseField xb), fun q hq => ?base, fun h => ?n5, fun h h' => ⟨_, rfl, ?auto⟩, fun h => ?long⟩
  case base =>
    have hq' : (baseField xb).toNat = q := by
      rw [baseField_toNat]
      split <;> omega
    rw [Base.ofCode_eq, hq']
  case n5 =>
    have hfield : baseField xb = xb.extractLsb' 6 2 := if_pos (by omega)
    rw [hfield, decodeIdx_of_n5 (by rw [hbit]; simpa using h), extractLsb'_zero_eq_ofNat]
    rfl
  case auto =>
    have hfield : baseField xb = xb.extractLsb' 6 2 := if_pos (by omega)
    have hpc : xb.extractLsb' 6 2 ≠ 3#2 := by
      intro hc
      rw [hc] at hrr
      have : (3#2).toNat = 3 := rfl
      omega
    have hpost : xb.getLsbD 4 = decide (16 ≤ xb.toNat % 32) := by
      rw [getLsbD_eq_decide_mod, decide_eq_decide]; omega
    rw [hfield, decodeIdx_of_auto (by rw [hbit]; simpa using h) (AutoBase.ofCode_of_ne hpc), hpost,
      extractLsb'_zero_eq_ofNat]
    rfl
  case long =>
    have hfield : baseField xb = xb.extractLsb' 3 2 := if_neg (by omega)
    have hpc : xb.extractLsb' 6 2 = 3#2 := by
      apply BitVec.eq_of_toNat_eq
      have : (3#2).toNat = 3 := rfl
      omega
    have hz : (xb.extractLsb' 0 3).toNat = xb.toNat % 8 := by
      rw [extractLsb'_toNat_eq]; omega
    have h5 : 32 ≤ xb.toNat % 64 := by omega
    rw [hfield, decodeIdx_of_long (by rw [hbit]; simpa using h5) hpc, decodeIdxLong_eq, hz]

/-! ## Bytes of no row -/

theorem decodeWith_of_lookup_none {page : List (Nat × Parser)} {op : Byte} (h : page.lookup op.toNat = none)
    (rest : List Byte) : decodeWith page op rest = .error .notInScope := by
  simp only [decodeWith, h]

theorem decode_of_page1_none {op : Byte} (hop : op ≠ 0x18#8) (h : page1.lookup op.toNat = none) (rest : List Byte) :
    decode (op :: rest) = .error .notInScope := by
  simp only [decode, decodeGeneral, if_neg hop, decodeWith_of_lookup_none h]

theorem decode_of_page2_none {op : Byte} (h : page2.lookup op.toNat = none) (rest : List Byte) :
    decode (0x18#8 :: op :: rest) = .error .notInScope := by
  simp only [decode, decodeGeneral, if_true, decodeWith_of_lookup_none h]

/-- The `.` bytes of page 1, its row 2 apart (R74). -/
def page1Dots : List Nat :=
  [0x00, 0x01, 0x04, 0x05, 0x06, 0x07, 0x0A, 0x0B, 0x0C, 0x0D, 0x0E, 0x0F, 0x15, 0x16, 0x17, 0x1C, 0x1D,
    0x1E, 0x1F, 0x3C, 0x3D, 0x3E, 0x3F, 0x4A, 0x4B, 0x4C, 0x4D, 0x4E, 0x4F, 0x85, 0x95, 0xA5, 0xA7, 0xB5, 0xC5, 0xD5,
    0xE5, 0xF5]

theorem page1_lookup_dots : ∀ k ∈ page1Dots ++ List.range' 32 16, (page1.lookup k).isNone = true := by
  decide

/-- The opcodes page 2 lists (R75). -/
theorem page2_opcodes : ∀ row ∈ page2, row.1 ≠ 0x07 ∧ row.1 ≠ 0x12 ∧ (row.1 < 0x18 ∨ row.1 = 0x38 ∨ row.1 = 0x39) := by
  decide

theorem page2_lookup_none {k : Nat} (h : k = 0x07 ∨ k = 0x12 ∨ (0x18 ≤ k ∧ k ≠ 0x38 ∧ k ≠ 0x39)) :
    page2.lookup k = none := by
  refine List.lookup_eq_none_iff.2 fun row hrow => bne_iff_ne.2 ?_
  have := page2_opcodes row hrow
  omega

theorem parseReg_of_no_row {eb : Byte} (h : eb.getLsbD 3 = true ∨ eb.extractLsb' 0 3 = 3#3 ∨ eb.extractLsb' 4 3 = 3#3)
    (rest : List Byte) : parseReg (eb :: rest) = .error .notInScope := by
  simp only [parseReg]
  split
  · rfl
  · next h3 =>
    split
    · next r1 r2 h1 h2 =>
      have hne : ∀ {c : BitVec 3} {r : Reg}, Reg.ofCode c = some r → c ≠ 3#3 := by
        intro c r hr hc
        rw [(Reg.ofCode_eq_none_iff c).2 hc] at hr
        cases hr
      obtain h | h | h := h
      · exact absurd h h3
      · exact absurd h (hne h2)
      · exact absurd h (hne h1)
    · rfl

theorem decode_of_parseReg_error {bs : List Byte} {e : DecodeError} (h : parseReg bs = .error e) :
    decode (0xB7#8 :: bs) = .error e := by
  have hrow : page1.lookup (0xB7#8).toNat = some parseReg := rfl
  have hop : (0xB7#8 : Byte) ≠ 0x18#8 := by decide
  simp only [decode, decodeGeneral, if_neg hop, decodeWith, hrow, h]

/-- Settles O5: no row of a page has these opcodes, and no register these codes. -/
theorem bytesOfNoRowAreNotInScope : Obligations.BytesOfNoRowAreNotInScope := by
  refine ⟨fun op rest h => ?page1, fun op rest h => decode_of_page2_none (page2_lookup_none h) rest,
    fun eb rest h => decode_of_parseReg_error (parseReg_of_no_row ?reg rest)⟩
  case page1 =>
    have hmem : op.toNat ∈ page1Dots ++ List.range' 32 16 := by
      refine List.mem_append.2 (h.imp id fun h => List.mem_range'_1.2 ?_)
      omega
    refine decode_of_page1_none ?_ (Option.isNone_iff_eq_none.1 (page1_lookup_dots _ hmem)) rest
    rintro rfl
    revert hmem
    decide
  case reg =>
    obtain h | h | h := h
    · exact .inl (by rw [getLsbD_eq_decide_mod]; simpa using h)
    · refine .inr (.inl (BitVec.eq_of_toNat_eq ?_))
      rw [extractLsb'_toNat_eq]
      simpa using h
    · refine .inr (.inr (BitVec.eq_of_toNat_eq ?_))
      rw [extractLsb'_toNat_eq]
      simpa using h

/-- Settles O4: each of the words decodes, by evaluation. -/
theorem wordsOfTheRulesDecode : Obligations.WordsOfTheRulesDecode :=
  ⟨rfl, rfl, rfl, rfl, rfl, rfl, rfl, rfl, rfl, rfl, rfl⟩

end Sys2Proof
end

section
/-! SUPPORT. Refusals by operand pattern (R95, R96, R97, R104): an instruction that is not well-formed is refused by
its pattern's name, and one that is stops by its memory accesses or its operand values alone. With an admitted form LEA
takes its address (R118). -/

namespace Sys2Proof.Machine

open Sys2Proof.Safety

/-! ## Patterns shut out -/

/-- The name an operand pattern is refused by: of the moves R95's, of LEA R97's, of the others R96's. -/
def formRefusal (i : Instr) : Refusal :=
  match i with
  | .movb _ _ | .movw _ _ => .moveIndexedForm
  | .leas _ | .leax _ | .leay _ => .leaForm
  | _ => .baseIsOperand

theorem formRefusal_mem (i : Instr) : formRefusal i ∈ [Refusal.moveIndexedForm, .baseIsOperand, .leaForm] := by
  unfold formRefusal
  split <;> decide

theorem loadAddress_of_not_leaForm {x : Idx} (h : x.leaForm = false) (s : State) (f : Word → State → State) :
    loadAddress x s f = .refused .leaForm :=
  (loadAddress_eq x s f).trans (if_neg (Bool.eq_false_iff.1 h))

/-- An instruction that is not well-formed is refused in every state. -/
theorem exec_of_not_wellFormed {i : Instr} (h : WellFormed i = false) (s : State) :
    exec i s = .refused (formRefusal i) := by
  cases i with
  | lds op | ldx op | ldy op | cps op | cpx op | cpy op => exact if_pos ((Bool.not_eq_false' _).mp h)
  | sts ea | stx ea | sty ea => exact if_pos ((Bool.not_eq_false' _).mp h)
  | leas x | leax x | leay x => exact loadAddress_of_not_leaForm h s _
  | movb src dst => exact (execMovb_eq src dst s).trans (if_neg (Bool.eq_false_iff.1 h))
  | movw src dst => exact (execMovw_eq src dst s).trans (if_neg (Bool.eq_false_iff.1 h))
  | _ => cases h

/-! ## Stops of a well-formed instruction -/

/-- The refusals of an instruction for its bytes or its operand pattern (R95, R96, R97, R104). -/
def formRefusals : List Refusal := [.moveIndexedForm, .baseIsOperand, .leaForm, .notInScope]

/-- The outcome is none of these refusals. -/
def NotByForm (o : Host.Outcome State Fault Refusal) : Prop := ∀ r, o = .refused r → r ∉ formRefusals

/-- A body stops at an access that is not admitted or writes program text, or not at all (R51, R63). -/
def AccessStops {α : Type} (r : Except Stop α) : Prop :=
  ∀ e, r = .error e → e = .fault .stuck ∨ e = .refused .writeToCode

namespace AccessStops

variable {α β : Type} {s : State}

theorem ok (v : α) : AccessStops (.ok v) := nofun

theorem of_stuck {r : Except Stop α} (h : ∀ e, r = .error e → e = .fault .stuck) : AccessStops r :=
  fun e he => .inl (h e he)

theorem bind {r : Except Stop α} {f : α → Except Stop β} (hr : AccessStops r) (hf : ∀ v, AccessStops (f v)) :
    AccessStops (r >>= f) := by
  cases r with
  | error e => exact fun e' he' => hr e' (by cases he'; rfl)
  | ok v => exact hf v

theorem readByte (a : Word) : AccessStops (readByte s a) := .of_stuck fun _ => readByte_error

theorem readWord (a : Word) : AccessStops (readWord s a) := .of_stuck fun _ => readWord_error

theorem writeByte (a : Word) (v : Byte) : AccessStops (writeByte s a v) := by
  unfold Machine.writeByte
  intro e he
  split at he
  · split at he
    · cases he; exact .inr rfl
    · cases he
  · cases he; exact .inl rfl

theorem writeWord (a v : Word) : AccessStops (writeWord s a v) := by
  unfold Machine.writeWord
  intro e he
  split at he
  · split at he
    · cases he; exact .inr rfl
    · cases he
  · cases he; exact .inl rfl

theorem pullByte (f : Byte → State → State) : AccessStops (pullByte s f) :=
  pullByte_eq s f ▸ .bind (readByte _) fun _ => .ok _

theorem pullWord (f : Word → State → State) : AccessStops (pullWord s f) :=
  pullWord_eq s f ▸ .bind (readWord _) fun _ => .ok _

end AccessStops

namespace NotByForm

variable {s : State}

theorem complete {next : Word} {r : Except Stop State} (h : AccessStops r) : NotByForm (complete next r) := by
  intro name hname
  cases r with
  | ok t => cases hname
  | error e =>
    obtain rfl | rfl := h e rfl <;> cases hname
    decide

theorem finish (n : Nat) (s t : State) : NotByForm (finish n s t) := .complete (.ok t)

theorem whereUnstated {name : Refusal} {o : Host.Outcome State Fault Refusal} (hname : name ∉ formRefusals)
    (ho : NotByForm o) : NotByForm (whereUnstated name s o) := by
  unfold Machine.whereUnstated
  split
  · intro r hr
    cases hr
    exact hname
  · exact ho

theorem refusedIf {c : Bool} {name : Refusal} {o : Host.Outcome State Fault Refusal} (hc : (!c) = true)
    (ho : NotByForm o) : NotByForm (if c then .refused name else o) := by
  rw [(Bool.not_eq_true' c).mp hc]
  exact ho

theorem refusedUnless {c : Bool} {name : Refusal} {o : Host.Outcome State Fault Refusal} (hc : c = true)
    (ho : NotByForm o) : NotByForm (if c then o else .refused name) := by
  rw [hc]
  exact ho

theorem withSrc8 (op : Src8) (f : Byte → State → State) : NotByForm (withSrc8 op s f) :=
  withSrc8_eq op s f ▸ .complete (.bind (.of_stuck fun _ => fetchSrc8_error) fun _ => .ok _)

theorem withSrc16 (op : Src16) (f : Word → State → State) : NotByForm (withSrc16 op s f) :=
  withSrc16_eq op s f ▸ .complete (.bind (.of_stuck fun _ => fetchSrc16_error) fun _ => .ok _)

theorem storeByte (ea : Ea) (v : Byte) : NotByForm (storeByte ea v s) :=
  storeByte_eq ea v s ▸ .complete (.bind (.of_stuck fun _ => resolveEa_error) fun _ =>
    .bind (.writeByte _ _) fun _ => .ok _)

theorem storeWord (ea : Ea) (v : Word) : NotByForm (storeWord ea v s) :=
  storeWord_eq ea v s ▸ .complete (.bind (.of_stuck fun _ => resolveEa_error) fun _ =>
    .bind (.writeWord _ _) fun _ => .ok _)

theorem writeByteXI (ea : EaXI) (v : Byte) (u : FlagUpdate) : NotByForm (writeByteXI ea v u s) :=
  writeByteXI_eq ea v u s ▸ .complete (.bind (.of_stuck fun _ => resolveEaXI_error) fun _ =>
    .bind (.writeByte _ _) fun _ => .ok _)

theorem testByteXI (ea : EaXI) (f : Byte → FlagUpdate) : NotByForm (testByteXI ea f s) :=
  testByteXI_eq ea f s ▸ .complete (.bind (.of_stuck fun _ => resolveEaXI_error) fun _ =>
    .bind (.readByte _) fun _ => .ok _)

theorem modifyByte (ea : EaXI) (f : Byte → Byte × FlagUpdate) : NotByForm (modifyByte ea f s) :=
  modifyByte_eq ea f s ▸ .complete (.bind (.of_stuck fun _ => resolveEaXI_error) fun _ =>
    .bind (.readByte _) fun _ => .bind (.writeByte _ _) fun _ => .ok _)

theorem loadAddress {x : Idx} (hx : x.leaForm = true) (f : Word → State → State) : NotByForm (loadAddress x s f) :=
  loadAddress_eq x s f ▸ .refusedUnless hx
    (.complete (.bind (.of_stuck fun _ => resolveIdx_error) fun _ => .ok _))

theorem movb {src : MovSrc8} {dst : MovDst} (h : (src.movForm && dst.movForm) = true) :
    NotByForm (execMovb src dst s) :=
  execMovb_eq src dst s ▸ .refusedUnless h (.complete (.bind (.of_stuck fun _ => fetchMovSrc8_error) fun _ =>
    .bind (.of_stuck fun _ => resolveMovDst_error) fun _ => .writeByte _ _))

theorem movw {src : MovSrc16} {dst : MovDst} (h : (src.movForm && dst.movForm) = true) :
    NotByForm (execMovw src dst s) :=
  execMovw_eq src dst s ▸ .refusedUnless h (.complete (.bind (.of_stuck fun _ => fetchMovSrc16_error) fun _ =>
    .bind (.of_stuck fun _ => resolveMovDst_error) fun _ => .writeWord _ _))

theorem divide (n : Nat) (dst : QuotientReg) (k : DivideKind) (o : Quotient) : NotByForm (divide n dst k o s) := by
  cases o with
  | result q r => exact .finish n s _
  | byZero => exact .whereUnstated (by decide) (.finish n s _)
  | overflow => exact .whereUnstated (by decide) (.finish n s _)

theorem exg (p q : Reg) : NotByForm (execExg p q s) := by
  have mixed : ∀ p q, NotByForm (mixedExchange p q s) := fun p q => .whereUnstated (by decide) (.finish 2 s _)
  cases p with
  | r8 p =>
    cases q with
    | r8 q => exact .finish 2 s _
    | r16 q => exact mixed p q
  | r16 p =>
    cases q with
    | r8 q => exact mixed q p
    | r16 q => exact .finish 2 s _

end NotByForm

/-- No well-formed instruction is refused for its bytes or its operand pattern. -/
theorem exec_notByForm {i : Instr} (h : WellFormed i = true) (s : State) : NotByForm (exec i s) := by
  cases i with
  | ldaa op | ldab op | adca op | adcb op | adda op | addb op | sbca op | sbcb op | suba op | subb op | cmpa op
  | cmpb op | anda op | andb op | eora op | eorb op | oraa op | orab op => exact .withSrc8 op _
  | ldd op | addd op | subd op | cpd op => exact .withSrc16 op _
  | lds op | ldx op | ldy op | cps op | cpx op | cpy op => exact .refusedIf h (.withSrc16 op _)
  | staa ea | stab ea => exact .storeByte ea _
  | std ea => exact .storeWord ea _
  | sts ea | stx ea | sty ea => exact .refusedIf h (.storeWord ea _)
  | leas x | leax x | leay x => exact .loadAddress h _
  | clr ea => exact .writeByteXI ea _ _
  | tst ea => exact .testByteXI ea _
  | dec ea | inc ea | com ea | neg ea | lsl ea | lsr ea | asl ea | asr ea | rol ea | ror ea => exact .modifyByte ea _
  | psha | pshb | pshc => exact .complete (.writeByte _ _)
  | pshcw | pshd | pshx | pshy => exact .complete (.writeWord _ _)
  | pula | pulb | pulc => exact .complete (.pullByte _)
  | pulcw | puld | pulx | puly => exact .complete (.pullWord _)
  | movb src dst => exact .movb h
  | movw src dst => exact .movw h
  | ediv | edivs | fdiv | idiv | idivs => exact .divide _ _ _ _
  | exg p q => exact .exg p q
  | _ => exact .finish _ s _

/-! ## Load effective address -/

/-- The admitted forms of LEA step no register (R97). -/
theorem resolveIdx_state_of_leaForm {x : Idx} {next a : Word} {s s1 : State} (hx : x.leaForm = true)
    (h : resolveIdx x next s = .ok (a, s1)) : s1 = s := by
  obtain rfl | ⟨r, post, n, rfl, -⟩ := resolveIdx_state h
  · rfl
  · cases hx

theorem nextOf_leax (x : Idx) (s : State) : nextOf (.leax x) s = s.nextPc (1 + idxSize x) :=
  nextOf_eq (i := .leax x) (opcode_encodeIdx_length _ x)

theorem completesTo_loadAddress {i : Instr} {x : Idx} {f : Word → State → State} {s s1 t : State} {a : Word}
    (hl : byteLength i = 1 + idxSize x) (he : exec i s = loadAddress x s f) (hx : x.leaForm = true)
    (ha : resolveIdx x (nextOf (.leax x) s) s = .ok (a, s1)) (hf : f a s = t) (hc : t.ccr = s.ccr) :
    CompletesTo i s t {} := by
  obtain rfl := resolveIdx_state_of_leaForm hx ha
  rw [nextOf_leax] at ha
  refine completesTo_finish_of_ccr hl ?_ hc
  rw [he, loadAddress_eq, if_pos hx, ha, ok_bind, ← hf]
  rfl

end Sys2Proof.Machine

namespace Sys2Proof

open Sys2Proof.Machine Sys2Proof.Safety

/-- Settles O18: none of the patterns is well-formed. -/
theorem shutOutOperandsAreRefused : Obligations.ShutOutOperandsAreRefused := by
  intro s post n
  refine ⟨fun i hi => ?base, fun r b w x hx i hi => ?lea, fun b o w m c x hx => ?mov⟩
  case base =>
    have hform : WellFormed i = false ∧ formRefusal i = .baseIsOperand := by
      simp only [List.mem_cons, List.not_mem_nil, or_false] at hi
      rcases hi with rfl | rfl | rfl | rfl | rfl | rfl | rfl | rfl | rfl <;> exact ⟨rfl, rfl⟩
    rw [exec_of_not_wellFormed hform.1, hform.2]
  case lea =>
    have hform : x.leaForm = false := by
      simp only [List.mem_cons, List.not_mem_nil, or_false] at hx
      rcases hx with rfl | rfl | rfl <;> rfl
    have hwf : WellFormed i = false ∧ formRefusal i = .leaForm := by
      simp only [List.mem_cons, List.not_mem_nil, or_false] at hi
      rcases hi with rfl | rfl | rfl <;> exact ⟨hform, rfl⟩
    rw [exec_of_not_wellFormed hwf.1, hwf.2]
  case mov =>
    have hform : x.movForm = false := by
      simp only [List.mem_cons, List.not_mem_nil, or_false] at hx
      rcases hx with rfl | rfl | rfl | rfl | rfl | rfl <;> rfl
    have hdst : ∀ a, (a && x.movForm) = false := fun a => by rw [hform, Bool.and_false]
    have hsrc : ∀ a, (x.movForm && a) = false := fun a => by rw [hform, Bool.false_and]
    exact ⟨fun src => exec_of_not_wellFormed (i := .movb src (.idx x)) (hdst _) s,
      fun dst => exec_of_not_wellFormed (i := .movb (.idx x) dst) (hsrc _) s,
      fun src => exec_of_not_wellFormed (i := .movw src (.idx x)) (hdst _) s,
      fun dst => exec_of_not_wellFormed (i := .movw (.idx x) dst) (hsrc _) s⟩

/-- Settles O19: `exec_of_not_wellFormed` one way; the stops of a well-formed instruction are other ones. -/
theorem onlyShutOutOperandsAreRefusedByForm : Obligations.OnlyShutOutOperandsAreRefusedByForm := fun i =>
  ⟨fun h => ⟨formRefusal i, formRefusal_mem i, exec_of_not_wellFormed h⟩,
    fun h s r hr he => exec_notByForm h s r he hr⟩

/-- Settles O27: an admitted form steps no register, and the three differ in the register that takes the address. -/
theorem loadEffectiveAddresses : Obligations.LoadEffectiveAddresses := by
  intro x s s1 a hx ha
  have hl := opcode_encodeIdx_length
  exact ⟨completesTo_loadAddress (hl _ x) rfl hx ha rfl rfl, completesTo_loadAddress (hl _ x) rfl hx ha rfl rfl,
    completesTo_loadAddress (hl _ x) rfl hx ha rfl rfl⟩

end Sys2Proof
end

section
/-! SUPPORT. Sign extension, the named transfers and exchanges, and the exchange of an 8-bit with a 16-bit register
(R142, R145, R149 to R156): the values by numbers, and how an exchange of mixed width ends. -/

namespace Sys2Proof.Machine

open Sys2Proof.Safety

/-! ## Values -/

theorem State.d_eq_ofNat (s : State) : s.d = BitVec.ofNat 16 (dNat s) := by
  rw [← State.d_toNat, BitVec.ofNat_toNat, BitVec.setWidth_eq]

/-! ## Exchanges with D -/

theorem exchange_d_x (s : State) : (s.setD s.x).setX s.d =
    { s with a := BitVec.ofNat 8 (s.x.toNat / 256), b := BitVec.ofNat 8 (s.x.toNat % 256),
             x := BitVec.ofNat 16 (dNat s) } := by
  rw [State.setD_eq, State.d_eq_ofNat, State.setX]

theorem exchange_d_y (s : State) : (s.setD s.y).setY s.d =
    { s with a := BitVec.ofNat 8 (s.y.toNat / 256), b := BitVec.ofNat 8 (s.y.toNat % 256),
             y := BitVec.ofNat 16 (dNat s) } := by
  rw [State.setD_eq, State.d_eq_ofNat, State.setY]

/-! ## Exchanges of mixed width -/

theorem set8_freeCount (s : State) (p : Reg8) (v : Byte) : (s.set8 p v).freeCount = s.freeCount := by
  cases p <;> rfl

theorem exec_exg_mixed {p : Reg8} {q : Reg16} {i : Instr} (s : State)
    (hi : i = .exg (.r8 p) (.r16 q) ∨ i = .exg (.r16 q) (.r8 p)) :
    byteLength i = 2 ∧ exec i s = mixedExchange p q s := by
  rcases hi with rfl | rfl <;> exact ⟨rfl, rfl⟩

theorem mixedExchange_refused {s : State} (hs : s.launch.refuseUnstated = true) (p : Reg8) (q : Reg16) :
    mixedExchange p q s = .refused .mixedSizeExchange :=
  if_pos hs

theorem mixedExchange_run {s : State} (hs : s.launch.refuseUnstated = false) (p : Reg8) (q : Reg16) :
    mixedExchange p q s = .next { (s.set8 p (loByte (s.free 0))).set16 q (s.free 1) with
      pc := s.nextPc 2, freeCount := s.freeCount + 2 } := by
  obtain ⟨-, -, -, -, hfree⟩ := set16_frame (s.set8 p (loByte (s.free 0))) q (s.free 1)
  refine (whereUnstated_eq_next_iff _ _ _ _).2 ⟨hs, ?_⟩
  rw [finish_eq, State.useFree, hfree, set8_freeCount]

end Sys2Proof.Machine

namespace Sys2Proof

open Sys2Proof.Machine Sys2Proof.Safety

/-- Settles O31: the word is the sign-extended byte, and its register is all that is written. -/
theorem signExtension : Obligations.SignExtension := fun p q s =>
  ⟨sext16 (s.get8 p), sext16_toInt _ (by decide), completesTo_finish_of_ccr rfl rfl (set16_frame s q _).1⟩

/-- Settles O34: TAP is WriteCCR of A; the others write registers only, XGDX and XGDY D's halves by numbers. -/
theorem namedTransfersAndExchanges : Obligations.NamedTransfersAndExchanges := by
  intro s
  refine ⟨⟨rfl, ?tap⟩, ⟨rfl, ?tpa⟩, ⟨rfl, ?tsx⟩, ⟨rfl, ?tsy⟩, ⟨rfl, ?txs⟩, ⟨rfl, ?tys⟩,
    ⟨rfl, ?xgdx⟩, ⟨rfl, ?xgdy⟩⟩
  case tap => exact completesLoadingCcr_finish rfl rfl rfl
  case xgdx => exact completesTo_finish_of_ccr rfl (congrArg (finish 2 s) (exchange_d_x s)) rfl
  case xgdy => exact completesTo_finish_of_ccr rfl (congrArg (finish 2 s) (exchange_d_y s)) rfl
  all_goals exact completesTo_finish_of_ccr rfl rfl rfl

/-- Settles O10: memory is empty, PC stands at the first byte of the program text and the run's end after its last. -/
theorem resetIsCanonicalAndRuns : Obligations.ResetIsCanonicalAndRuns := by
  have hpc : State.reset.pc ≠ State.reset.launch.endPc := by decide
  exact ⟨rfl, hpc, rfl, rfl⟩

/-- Settles O33: both orders are one `mixedExchange`, which is refused or takes two free values. -/
theorem mixedWidthExchange : Obligations.MixedWidthExchange := by
  intro p q i s hi
  obtain ⟨hl, he⟩ := exec_exg_mixed s hi
  rw [he, nextOf_eq hl]
  exact ⟨fun hs => mixedExchange_refused hs p q, fun hs => ⟨_, _, mixedExchange_run hs p q⟩⟩

end Sys2Proof
end

section
/-! SUPPORT. The stack (R57, R171 to R189): a push is one write at the new SP, a pull one read at SP, and SP and the
index registers move by numbers modulo 2^16. -/

namespace Sys2Proof.Machine

open Sys2Proof.Safety

/-! ## Pointers by numbers -/

theorem word_add_ofNat (v : Word) (k : Nat) : v + BitVec.ofNat 16 k = BitVec.ofNat 16 (v.toNat + k) := by
  rw [BitVec.ofNat_add, BitVec.ofNat_toNat, BitVec.setWidth_eq]

theorem word_sub_one (v : Word) : v - 1#16 = BitVec.ofNat 16 (v.toNat + 65535) := by
  rw [← word_add_ofNat, BitVec.sub_eq_add_neg]
  rfl

theorem word_add_zext16 (v : Word) (b : Byte) : v + zext16 b = BitVec.ofNat 16 (v.toNat + b.toNat) := by
  rw [← word_add_ofNat, BitVec.ofNat_toNat, zext16]

/-! ## Pushes -/

section
variable {i : Instr} {s : State} {n : Nat}

theorem WritesByte.of_pushByte {v : Byte} (hl : byteLength i = n)
    (he : exec i s = complete (s.nextPc n) (pushByte s v)) :
    WritesByte i s (s.setSp (s.sp - 1#16)) (s.sp - 1#16) v {} where
  same := .setAutoBase s .sp _
  exec_eq := by rw [he, nextOf_eq hl, bind_setFlags_none, pushByte]

theorem WritesWord.of_pushWord {v : Word} (hl : byteLength i = n)
    (he : exec i s = complete (s.nextPc n) (pushWord s v)) :
    WritesWord i s (s.setSp (s.sp - 2#16)) (s.sp - 2#16) v {} where
  same := .setAutoBase s .sp _
  exec_eq := by rw [he, nextOf_eq hl, bind_setFlags_none, pushWord]

end

/-! ## Pulls -/

section
variable {s : State}

theorem pullByte_of_admitted (h : s.launch.admits s.sp = true) (f : Byte → State → State) :
    pullByte s f = .ok (f (s.byteAt s.sp) (s.setSp (BitVec.ofNat 16 (s.sp.toNat + 1)))) := by
  rw [pullByte_eq, readByte_of_admitted h, ok_bind, word_add_ofNat]

theorem complete_pullByte_of_not_admitted (h : s.launch.admits s.sp = false) (next : Word)
    (f : Byte → State → State) : complete next (pullByte s f) = .fault .stuck := by
  rw [pullByte_eq, readByte_of_not_admitted h]
  rfl

theorem pullWord_of_readable (h : Readable16 s s.sp) (f : Word → State → State) :
    pullWord s f = .ok (f (joinBytes (s.byteAt s.sp) (s.byteAt (s.sp + 1#16)))
      (s.setSp (BitVec.ofNat 16 (s.sp.toNat + 2)))) := by
  rw [pullWord_eq, readWord_of_readable h, ok_bind, word_add_ofNat s.sp 2]

theorem complete_pullWord_of_not_readable (h : ¬Readable16 s s.sp) (next : Word) (f : Word → State → State) :
    complete next (pullWord s f) = .fault .stuck := by
  rw [pullWord_eq, readWord_of_not_readable h]
  rfl

end

theorem joinBytes_eq_wordNat (s : State) (a : Word) :
    joinBytes (s.byteAt a) (s.byteAt (a + 1#16)) = BitVec.ofNat 16 (wordNat s a) := by
  rw [← wordNat_eq, BitVec.ofNat_toNat, BitVec.setWidth_eq]

theorem setD_joinBytes (s : State) (hi lo : Byte) : s.setD (joinBytes hi lo) = { s with a := hi, b := lo } := by
  rw [State.setD, hiByte_joinBytes, loByte_joinBytes]

/-- PULCW takes the bits of the write mask from the pulled byte and keeps the others (R31). -/
theorem writeCcrh_getLsbD (s : State) (v : Byte) (k : Nat) :
    (s.writeCcrh v).ccrh.getLsbD k = if s.launch.ccrhMask.getLsbD k then v.getLsbD k else s.ccrh.getLsbD k := by
  cases hm : s.launch.ccrhMask.getLsbD k with
  | false => exact writeCcrh_getLsbD_of_mask v hm
  | true =>
    rw [State.writeCcrh_ccrh, BitVec.getLsbD_or, BitVec.getLsbD_and, BitVec.getLsbD_and, BitVec.getLsbD_not, hm]
    simp

end Sys2Proof.Machine

namespace Sys2Proof

open Sys2Proof.Machine Sys2Proof.Safety

/-- Settles O37: a byte push is one write of the register at the new SP, with the empty row. -/
theorem bytePushes : Obligations.BytePushes := by
  intro s a ha
  obtain rfl : a = s.sp - 1#16 := by bv_omega
  have hpsha := WritesByte.of_pushByte (i := .psha) (s := s) rfl rfl
  have hpshb := WritesByte.of_pushByte (i := .pshb) (s := s) rfl rfl
  have hpshc := WritesByte.of_pushByte (i := .pshc) (s := s) rfl rfl
  simp only [List.forall_mem_cons]
  exact ⟨⟨rfl, hpsha.storesByteTo, hpsha.stops⟩, ⟨rfl, hpshb.storesByteTo, hpshb.stops⟩,
    ⟨rfl, hpshc.storesByteTo, hpshc.stops⟩, List.forall_mem_nil _⟩

/-- Settles O38: a word push is one write of the register, or of CCRH:CCR, at the new SP, with the empty row. -/
theorem wordPushes : Obligations.WordPushes := by
  intro s a d cc ha hd hcc
  obtain rfl : a = s.sp - 2#16 := by bv_omega
  obtain rfl : d = s.d := by rw [← BitVec.toNat_inj, hd, State.d_toNat]
  obtain rfl : cc = joinBytes s.ccrh s.ccr := by rw [← BitVec.toNat_inj, hcc, joinBytes_toNat]
  have hpshd := WritesWord.of_pushWord (i := .pshd) (s := s) rfl rfl
  have hpshx := WritesWord.of_pushWord (i := .pshx) (s := s) rfl rfl
  have hpshy := WritesWord.of_pushWord (i := .pshy) (s := s) rfl rfl
  have hpshcw := WritesWord.of_pushWord (i := .pshcw) (s := s) rfl rfl
  simp only [List.forall_mem_cons]
  exact ⟨⟨rfl, hpshd.storesWordTo, hpshd.stops⟩, ⟨rfl, hpshx.storesWordTo, hpshx.stops⟩,
    ⟨rfl, hpshy.storesWordTo, hpshy.stops⟩, ⟨rfl, hpshcw.storesWordTo, hpshcw.stops⟩, List.forall_mem_nil _⟩

/-- Settles O39: a byte pull is one read at SP; PULC writes CCR by WriteCCR. -/
theorem bytePulls : Obligations.BytePulls := by
  intro s
  refine ⟨⟨rfl, rfl, rfl⟩, fun h => ?_, fun h i hi => ?_⟩
  · have hpull := fun f => congrArg (complete (s.nextPc 1)) (pullByte_of_admitted h f)
    exact ⟨completesTo_finish_of_ccr rfl (hpull _) rfl, completesTo_finish_of_ccr rfl (hpull _) rfl,
      completesLoadingCcr_finish rfl (hpull _) rfl⟩
  · simp only [List.mem_cons, List.not_mem_nil, or_false] at hi
    rcases hi with rfl | rfl | rfl <;> exact complete_pullByte_of_not_admitted h _ _

/-- Settles O40: a word pull is one read at SP; PULCW writes CCRH under its mask and CCR by WriteCCR. -/
theorem wordPulls : Obligations.WordPulls := by
  intro s
  refine ⟨⟨rfl, rfl, rfl, rfl⟩, fun h => ?_, fun h i hi => ?_⟩
  · have hpull := fun n f => congrArg (complete (s.nextPc n)) (pullWord_of_readable h f)
    refine ⟨completesTo_finish_of_ccr rfl ((hpull 1 _).trans ?puld) rfl,
      completesTo_finish_of_ccr rfl ((hpull 1 _).trans ?pulx) rfl,
      completesTo_finish_of_ccr rfl ((hpull 1 _).trans ?puly) rfl,
      (s.writeCcrh (s.byteAt s.sp)).ccrh, fun k _ => writeCcrh_getLsbD s _ k,
      completesLoadingCcr_finish rfl ((hpull 2 _).trans ?pulcw) rfl⟩
    case puld => rw [setD_joinBytes]; rfl
    case pulx => rw [joinBytes_eq_wordNat]; rfl
    case puly => rw [joinBytes_eq_wordNat]; rfl
    case pulcw => rw [hiByte_joinBytes, loByte_joinBytes]; rfl
  · simp only [List.mem_cons, List.not_mem_nil, or_false] at hi
    rcases hi with rfl | rfl | rfl | rfl <;> exact complete_pullWord_of_not_readable h _ _

/-- Settles O36: each adds to its pointer modulo 2^16, DES adding 65535. -/
theorem pointerArithmetic : Obligations.PointerArithmetic := by
  intro s
  rw [← word_sub_one, ← word_add_ofNat s.sp, ← word_add_zext16 s.x, ← word_add_zext16 s.y]
  exact ⟨completesTo_finish_of_ccr rfl rfl rfl, completesTo_finish_of_ccr rfl rfl rfl,
    completesTo_finish_of_ccr rfl rfl rfl, completesTo_finish_of_ccr rfl rfl rfl⟩

end Sys2Proof
end

section
/-! SUPPORT. Decrement and increment of a register (R232 to R235, R237 to R241): the Z of a stepped index register
by the number it was stepped from. -/

namespace Sys2Proof.Machine

/-- A decrement reaches zero from 1 alone. -/
theorem zUpdate_sub_one (v : Word) : zUpdate (v - 1#16) = { z := some (decide (v.toNat = 1)) } := by
  have hz : (v - 1#16).toNat = 0 ↔ v.toNat = 1 := by bv_omega
  rw [zUpdate, beq_zero_eq_decide, decide_eq_decide.2 hz]

/-- An increment reaches zero from 65535 alone. -/
theorem zUpdate_add_one (v : Word) : zUpdate (v + 1#16) = { z := some (decide (v.toNat = 65535)) } := by
  have hz : (v + 1#16).toNat = 0 ↔ v.toNat = 65535 := by bv_omega
  rw [zUpdate, beq_zero_eq_decide, decide_eq_decide.2 hz]

end Sys2Proof.Machine

namespace Sys2Proof

open Sys2Proof.Machine Sys2Proof.Safety

/-- Settles O45: each writes one register, with its value less 1 or plus 1 and the row of R241: that of DEC or INC for an
accumulator, Z alone for an index register. -/
theorem registerIncrementAndDecrement : Obligations.RegisterIncrementAndDecrement := by
  intro s
  refine ⟨fun r hr => ?deca, fun r hr => ?decb, fun r hr => ?inca, fun r hr => ?incb, ?dex, ?dey, ?inx, ?iny⟩
  case deca =>
    obtain rfl : r = s.a - 1#8 := by bv_omega
    exact completesTo_finish rfl (by rw [← decUpdate_eq]; rfl) rfl
  case decb =>
    obtain rfl : r = s.b - 1#8 := by bv_omega
    exact completesTo_finish rfl (by rw [← decUpdate_eq]; rfl) rfl
  case inca =>
    obtain rfl : r = s.a + 1#8 := by bv_omega
    exact completesTo_finish rfl (by rw [← incUpdate_eq]; rfl) rfl
  case incb =>
    obtain rfl : r = s.b + 1#8 := by bv_omega
    exact completesTo_finish rfl (by rw [← incUpdate_eq]; rfl) rfl
  case dex =>
    rw [← word_sub_one, ← zUpdate_sub_one]
    exact completesTo_finish rfl rfl rfl
  case dey =>
    rw [← word_sub_one, ← zUpdate_sub_one]
    exact completesTo_finish rfl rfl rfl
  case inx =>
    rw [← word_add_ofNat s.x, ← zUpdate_add_one]
    exact completesTo_finish rfl rfl rfl
  case iny =>
    rw [← word_add_ofNat s.y, ← zUpdate_add_one]
    exact completesTo_finish rfl rfl rfl

end Sys2Proof
end

section
/-! SUPPORT. A compare beside its subtract (R250). The two differ in what they write last, so it is enough that the
accumulator put back undoes the subtract's write, in every state the operand's step can leave. -/

namespace Sys2Proof.Machine

open Sys2Proof.Safety

/-- Changing what the body leaves is changing the next state, as long as the change leaves the PC to `complete`. -/
theorem complete_map {φ : State → State} (hφ : ∀ (t : State) (c : Word), φ { t with pc := c } = { φ t with pc := c })
    (next : Word) (r : Except Stop State) : complete next (r.map φ) = mapNext φ (complete next r) := by
  cases r with
  | ok t => exact congrArg Host.Outcome.next (hφ t next).symm
  | error e => cases e <;> rfl

/-- Two bodies over the same operand differ by `φ` where they do in every state the operand leaves. -/
theorem bind_eq_map_of_operand {α : Type} {s : State} {r : Except Stop (α × State)} (hr : Operand s r)
    {φ : State → State} {f g : α → State → State} (h : ∀ v s1, SameButIndex s s1 → f v s1 = φ (g v s1)) :
    (r >>= fun p => .ok (f p.1 p.2)) = (r >>= fun p => .ok (g p.1 p.2)).map φ := by
  cases r with
  | ok p => exact congrArg Except.ok (h p.1 p.2 (hr.same p.1 p.2 rfl))
  | error e => rfl

section
variable {s : State} {φ : State → State}

theorem withSrc8_eq_mapNext {f g : Byte → State → State}
    (hφ : ∀ (t : State) (c : Word), φ { t with pc := c } = { φ t with pc := c })
    (h : ∀ v s1, SameButIndex s s1 → f v s1 = φ (g v s1)) (op : Src8) :
    withSrc8 op s f = mapNext φ (withSrc8 op s g) := by
  rw [withSrc8_eq, withSrc8_eq, bind_eq_map_of_operand (fetchSrc8_operand op _ s) h, complete_map hφ]

theorem withSrc16_eq_mapNext {f g : Word → State → State}
    (hφ : ∀ (t : State) (c : Word), φ { t with pc := c } = { φ t with pc := c })
    (h : ∀ v s1, SameButIndex s s1 → f v s1 = φ (g v s1)) (op : Src16) :
    withSrc16 op s f = mapNext φ (withSrc16 op s g) := by
  rw [withSrc16_eq, withSrc16_eq, bind_eq_map_of_operand (fetchSrc16_operand op _ s) h, complete_map hφ]

end

/-- `subFromA` with A put back leaves the flags of the difference alone. -/
theorem setFlags_eq_subFromA_restored (v : Byte) (s : State) :
    s.setFlags (subN s.a v false).update = { subFromA v false s with a := s.a } := rfl

/-- `subFromB` with B put back leaves the flags of the difference alone. -/
theorem setFlags_eq_subFromB_restored (v : Byte) (s : State) :
    s.setFlags (subN s.b v false).update = { subFromB v false s with b := s.b } := rfl

/-- A write of D with A and B put back leaves the flags alone. -/
theorem setFlags_eq_setD_restored (w : Word) (u : FlagUpdate) (s : State) :
    s.setFlags u = { (s.setD w).setFlags u with a := s.a, b := s.b } := rfl

end Sys2Proof.Machine

namespace Sys2Proof

open Sys2Proof.Machine Sys2Proof.Safety

/-- Settles O46: compare and subtract fetch the same operand, whose step leaves A and B; from there the subtract with the
accumulator put back is the compare. -/
theorem compareIsSubtractWithoutTheResult : Obligations.CompareIsSubtractWithoutTheResult := by
  intro s
  refine ⟨?cba, fun op => ⟨?cmpa, ?cmpb⟩, fun op => ?cpd⟩
  case cba => exact congrArg (finish 2 s) (setFlags_eq_subFromA_restored s.b s)
  case cmpa =>
    refine withSrc8_eq_mapNext (fun _ _ => rfl) (fun v s1 same => ?_) op
    rw [setFlags_eq_subFromA_restored, same.a]
  case cmpb =>
    refine withSrc8_eq_mapNext (fun _ _ => rfl) (fun v s1 same => ?_) op
    rw [setFlags_eq_subFromB_restored, same.b]
  case cpd =>
    refine withSrc16_eq_mapNext (fun _ _ => rfl) (fun v s1 same => ?_) op
    rw [setFlags_eq_setD_restored (subN s1.d v false).r, same.a, same.b]

end Sys2Proof
end

section
/-! SUPPORT. Clear, complement and negate of a register, and the masks of CCR (R271 to R274, R315, R320): an OR into CCR by
WriteCCR, bit by bit. -/

namespace Sys2Proof.Machine

open Sys2Proof.Safety

/-- WriteCCR of CCR with the bits of a mask set: it sets each of them but X, and clears none (R30). -/
theorem writtenCcr_or_getLsbD (c m : Byte) {k : Nat} (hk : k < 8) :
    (writtenCcr c (c ||| m)).getLsbD k = (c.getLsbD k || (decide (k ≠ 6) && m.getLsbD k)) := by
  rw [writtenCcr_loaded c (c ||| m) k hk, BitVec.getLsbD_or, BitVec.getLsbD_or]
  by_cases h6 : k = 6
  · subst h6
    cases c.getLsbD 6 <;> rfl
  · rw [if_neg h6, decide_eq_true h6, Bool.true_and]

/-- An instruction that cannot stop and writes CCR alone. -/
theorem exec_eq_next_ccr {i : Instr} {s : State} {n : Nat} {c : Byte} (hl : byteLength i = n)
    (he : exec i s = finish n s { s with ccr := c }) : exec i s = .next { s with ccr := c, pc := nextOf i s } := by
  rw [he, finish_eq, nextOf_eq hl]

end Sys2Proof.Machine

namespace Sys2Proof

open Sys2Proof.Machine Sys2Proof.Safety

/-- Settles O49: CLC, CLI, CLV apply a row of one bit; ANDCC and ORCC write CCR alone, ORCC by WriteCCR, which sets no
X. -/
theorem conditionCodeMasks : Obligations.ConditionCodeMasks := by
  intro s
  refine ⟨completesTo_finish rfl rfl rfl, completesTo_finish rfl rfl rfl, completesTo_finish rfl rfl rfl,
    fun ii => ⟨s.ccr &&& ii, ?andcc, fun k _ => BitVec.getLsbD_and⟩,
    fun ii => ⟨writtenCcr s.ccr (s.ccr ||| ii), ?orcc, fun k hk => writtenCcr_or_getLsbD s.ccr ii hk⟩⟩
  case andcc => exact exec_eq_next_ccr (n := 2) rfl rfl
  case orcc => exact exec_eq_next_ccr (n := 2) rfl rfl

/-- Settles O50: each writes one accumulator, with zero, its complement or its negative, and the row of R271. -/
theorem accumulatorClearComplementNegate : Obligations.AccumulatorClearComplementNegate := by
  intro s
  refine ⟨?clra, ?clrb, fun r hr => ?coma, fun r hr => ?comb, fun r hr => ?nega, fun r hr => ?negb⟩
  case clra => exact completesTo_finish rfl (by rw [← clrUpdate_eq]; rfl) rfl
  case clrb => exact completesTo_finish rfl (by rw [← clrUpdate_eq]; rfl) rfl
  case coma => exact completesTo_finish rfl (by rw [← comUpdate_eq, eq_complement hr]; rfl) rfl
  case comb => exact completesTo_finish rfl (by rw [← comUpdate_eq, eq_complement hr]; rfl) rfl
  case nega => exact completesTo_finish rfl (by rw [← negUpdate_eq hr, eq_negative hr]; rfl) rfl
  case negb => exact completesTo_finish rfl (by rw [← negUpdate_eq hr, eq_negative hr]; rfl) rfl

end Sys2Proof
end

section
/-! SUPPORT. The multiplies and divides and memory (R290): each is a `finish` or a `divide`, which answers the same over
any memory, with that memory in the state it leaves. -/

namespace Sys2Proof.Machine

open Sys2Proof.Safety

/-- `s` over the memory `m`. -/
def State.withMem (m : Memory) (s : State) : State := { s with mem := m }

theorem finish_withMem {m : Memory} {n : Nat} {s t t' : State} (ht : t' = t.withMem m) :
    finish n (s.withMem m) t' = mapNext (State.withMem m) (finish n s t) := by
  subst ht
  rfl

theorem whereUnstated_withMem {m : Memory} {name : Refusal} {s : State} {o o' : Host.Outcome State Fault Refusal}
    (ho : o' = mapNext (State.withMem m) o) :
    whereUnstated name (s.withMem m) o' = mapNext (State.withMem m) (whereUnstated name s o) := by
  subst ho
  unfold whereUnstated
  rw [show (s.withMem m).launch = s.launch from rfl]
  cases s.launch.refuseUnstated <;> rfl

theorem divide_withMem {m : Memory} {s : State} (n : Nat) (dst : QuotientReg) (k : DivideKind) (o : Quotient) :
    divide n dst k o (s.withMem m) = mapNext (State.withMem m) (divide n dst k o s) := by
  cases o with
  | result q r => exact finish_withMem (by cases dst <;> rfl)
  | byZero => exact whereUnstated_withMem (finish_withMem (by cases dst <;> rfl))
  | overflow => exact whereUnstated_withMem (finish_withMem (by cases dst <;> rfl))

/-- The eight multiplies and divides do the same over any memory, and leave it. -/
theorem exec_withMem (s : State) (m : Memory) :
    ∀ i ∈ [Instr.mul, .emul, .emuls, .ediv, .edivs, .fdiv, .idiv, .idivs],
      exec i (s.withMem m) = mapNext (State.withMem m) (exec i s) := by
  simp only [List.forall_mem_cons]
  exact ⟨finish_withMem rfl, finish_withMem rfl, finish_withMem rfl, divide_withMem _ _ _ _, divide_withMem _ _ _ _,
    divide_withMem _ _ _ _, divide_withMem _ _ _ _, divide_withMem _ _ _ _, List.forall_mem_nil _⟩

end Sys2Proof.Machine

namespace Sys2Proof

open Sys2Proof.Machine Sys2Proof.Safety

/-- Settles O53: `exec_withMem` over any memory; R56 has none of the eight among the writers; their encodings are an
opcode alone. -/
theorem multiplyAndDivideUseNoMemory : Obligations.MultiplyAndDivideUseNoMemory := by
  intro i hi s m
  have hkeeps : ∀ i ∈ [Instr.mul, .emul, .emuls, .ediv, .edivs, .fdiv, .idiv, .idivs], writesMemory i = false := by
    decide
  have hlength : ∀ i ∈ [Instr.mul, .emul, .emuls, .ediv, .edivs, .fdiv, .idiv, .idivs],
      (encode i).length = if (encode i).head? = some 0x18#8 then 2 else 1 := by decide
  exact ⟨exec_withMem s m i hi, fun t => nonWritersKeepMemory i s t (hkeeps i hi), hlength i hi⟩

end Sys2Proof
end

section
/-! SUPPORT. The multiplications (R291, R295, R297 to R299): a product as the bytes of its registers, and its flags by
numbers. -/

namespace Sys2Proof.Machine

open Sys2Proof.Safety

/-! ## Products in registers -/

theorem joinBytes_getLsbD_seven (hi lo : Byte) : (joinBytes hi lo).getLsbD 7 = decide (128 ≤ lo.toNat) := by
  rw [joinBytes, BitVec.getLsbD_append]
  exact BitVec.msb_eq_decide lo

theorem append_joinBytes_getLsbD_fifteen (y : Word) (hi lo : Byte) :
    (y ++ joinBytes hi lo : BitVec 32).getLsbD 15 = decide (128 ≤ hi.toNat) := by
  rw [BitVec.getLsbD_append, joinBytes]
  exact (BitVec.getLsbD_append).trans (BitVec.msb_eq_decide hi)

/-- A 32-bit product is the word and the two bytes that `Y : D` takes. -/
theorem exists_append_joinBytes (p : BitVec 32) : ∃ (y : Word) (hi lo : Byte), p = y ++ joinBytes hi lo :=
  ⟨p.extractLsb' 16 16, hiByte (p.extractLsb' 0 16), loByte (p.extractLsb' 0 16), by
    rw [joinBytes_hiByte_loByte]
    exact (BitVec.extractLsb'_append_extractLsb' (w := 16) (len := 16) (x := p)).symm⟩

theorem append_joinBytes_toNat (y : Word) (hi lo : Byte) :
    (y ++ joinBytes hi lo : BitVec 32).toNat = y.toNat * 65536 + hi.toNat * 256 + lo.toNat := by
  rw [BitVec.toNat_append, ← Nat.shiftLeft_add_eq_or_of_lt (joinBytes hi lo).isLt, Nat.shiftLeft_eq, joinBytes_toNat,
    Nat.add_assoc]

theorem append_joinBytes_toInt (y : Word) (hi lo : Byte) :
    (y ++ joinBytes hi lo : BitVec 32).toInt = y.toInt * 65536 + hi.toNat * 256 + lo.toNat := by
  have h : (y ++ joinBytes hi lo : BitVec 32).toInt = 65536 * y.toInt + (joinBytes hi lo).toNat := BitVec.toInt_append
  rw [h, joinBytes_toNat]
  omega

/-- The registers and flags of a 32-bit product, N and C by its bytes (R295). -/
theorem storeProduct_append (y : Word) (hi lo : Byte) (s : State) :
    storeProduct (y ++ joinBytes hi lo) s = State.setFlags { s with y := y, a := hi, b := lo }
      { n := some (decide (32768 ≤ y.toNat)), z := some (decide ((y ++ joinBytes hi lo : BitVec 32).toNat = 0)),
        c := some (decide (128 ≤ hi.toNat)) } := by
  have hn : (y ++ joinBytes hi lo : BitVec 32).msb = decide (32768 ≤ y.toNat) :=
    BitVec.msb_append.trans (BitVec.msb_eq_decide y)
  rw [storeProduct, productUpdate, hn, append_joinBytes_getLsbD_fifteen, beq_zero_eq_decide,
    BitVec.extractLsb'_append_eq_left, BitVec.extractLsb'_append_eq_right, setD_joinBytes]
  rfl

/-- EMUL and EMULS put their product in `Y : A : B`; it is read unsigned or signed. -/
theorem completesTo_storeProduct {i : Instr} {s : State} {p : BitVec 32} {n : Nat} (hl : byteLength i = n)
    (he : exec i s = finish n s (storeProduct p s)) : ∃ (y : Word) (hi lo : Byte),
      y.toNat * 65536 + hi.toNat * 256 + lo.toNat = p.toNat ∧
      y.toInt * 65536 + hi.toNat * 256 + lo.toNat = p.toInt ∧
      CompletesTo i s { s with y := y, a := hi, b := lo }
        { n := some (decide (32768 ≤ y.toNat)), z := some (decide (p.toNat = 0)),
          c := some (decide (128 ≤ hi.toNat)) } := by
  obtain ⟨y, hi, lo, rfl⟩ := exists_append_joinBytes p
  exact ⟨y, hi, lo, (append_joinBytes_toNat y hi lo).symm, (append_joinBytes_toInt y hi lo).symm,
    completesTo_finish hl (by rw [he, storeProduct_append]) rfl⟩

/-! ## Whole products -/

theorem byte_product_toNat (a b : Byte) : (BitVec.ofNat 16 (a.toNat * b.toNat)).toNat = a.toNat * b.toNat :=
  Nat.mod_eq_of_lt (b := 2 ^ 8 * 2 ^ 8) (Nat.mul_lt_mul'' a.isLt b.isLt)

theorem word_product_toNat (d y : Word) : (BitVec.ofNat 32 (d.toNat * y.toNat)).toNat = d.toNat * y.toNat :=
  Nat.mod_eq_of_lt (b := 2 ^ 16 * 2 ^ 16) (Nat.mul_lt_mul'' d.isLt y.isLt)

theorem word_product_toInt (d y : Word) : (BitVec.ofInt 32 (d.toInt * y.toInt)).toInt = d.toInt * y.toInt := by
  have hlo : -1073741824 ≤ d.toInt * y.toInt := BitVec.le_toInt_mul_toInt
  have hhi : d.toInt * y.toInt ≤ 1073741824 := BitVec.toInt_mul_toInt_le
  exact BitVec.toInt_ofInt_eq_self (by decide) (by omega) (by omega)

theorem toNat_eq_zero_iff_toInt {n : Nat} (p : BitVec n) : p.toNat = 0 ↔ p.toInt = 0 := by
  rw [← BitVec.toNat_zero (w := n), BitVec.toNat_inj, ← BitVec.toInt_inj, BitVec.toInt_zero]

/-- MUL puts its product in `A : B` and its bit 7 in C (R295, R299). -/
theorem execMul_eq {s : State} {hi lo : Byte} (h : BitVec.ofNat 16 (s.a.toNat * s.b.toNat) = joinBytes hi lo) :
    execMul s = finish 1 s (State.setFlags { s with a := hi, b := lo } { c := some (decide (128 ≤ lo.toNat)) }) := by
  rw [execMul, h, joinBytes_getLsbD_seven, setD_joinBytes]

end Sys2Proof.Machine

namespace Sys2Proof

open Sys2Proof.Machine Sys2Proof.Safety

/-- Settles O52: each product fits its registers whole; the bytes stored are its bytes. -/
theorem multiplications : Obligations.Multiplications := by
  intro s
  refine ⟨⟨rfl, rfl, rfl⟩, ?mul, ?emul, fun d hd => ?emuls⟩
  case mul =>
    have hp := joinBytes_hiByte_loByte (BitVec.ofNat 16 (s.a.toNat * s.b.toNat))
    refine ⟨_, _, ?_, completesTo_finish rfl (execMul_eq hp.symm) rfl⟩
    rw [← joinBytes_toNat, hp, byte_product_toNat]
  case emul =>
    obtain ⟨y, hi, lo, hnat, -, hrun⟩ := completesTo_storeProduct (i := .emul) (s := s) rfl rfl
    rw [word_product_toNat, State.d_toNat] at hnat hrun
    exact ⟨y, hi, lo, hnat, hrun⟩
  case emuls =>
    obtain rfl : d = s.d := by rw [← BitVec.toNat_inj, hd, State.d_toNat]
    obtain ⟨y, hi, lo, -, hint, hrun⟩ := completesTo_storeProduct (i := .emuls) (s := s) rfl rfl
    have hzero : (BitVec.ofInt 32 (s.d.toInt * s.y.toInt)).toNat = 0 ↔ s.d.toInt * s.y.toInt = 0 := by
      rw [toNat_eq_zero_iff_toInt, word_product_toInt]
    rw [word_product_toInt] at hint
    rw [decide_eq_decide.2 hzero] at hrun
    exact ⟨y, hi, lo, hint, hrun⟩

end Sys2Proof
end

section
/-! SUPPORT. The divides where R296 lets a result stand: the words that hold quotient and remainder, and that a quotient
of 16 bits exists exactly where the model's is one. -/

namespace Sys2Proof.Machine

open Sys2Proof.Safety

/-! ## Completing with a result -/

theorem quotientUpdate_eq (k : DivideKind) (q : Word) :
    quotientUpdate k q = { wordRow q with n := if k.writesN then (wordRow q).n else none, c := some false } := by
  rw [quotientUpdate, wordRow, beq_zero_eq_decide, BitVec.msb_eq_decide]

theorem setQuotient_ccr (s : State) (dst : QuotientReg) (q : Word) : (s.setQuotient dst q).ccr = s.ccr := by
  cases dst <;> rfl

theorem Divides.completesTo_result {s : State} {i : Instr} {dst : QuotientReg} {k : DivideKind} {q r : Word}
    (h : Divides s i dst k (.result q r)) : CompletesTo i s ((s.setQuotient dst q).setD r)
      { wordRow q with n := if k.writesN then (wordRow q).n else none, c := some false } :=
  completesTo_finish rfl (h.exec_eq.trans (by rw [divide, quotientUpdate_eq])) (setQuotient_ccr s dst q)

/-! ## Unsigned results -/

/-- A dividend below 2^16 divisors has its quotient in a word. -/
theorem ofNat_div_toNat {n d : Nat} (hn : n < d * 65536) : (BitVec.ofNat 16 (n / d)).toNat = n / d :=
  Nat.mod_eq_of_lt (Nat.div_lt_of_lt_mul hn)

theorem ofNat_mod_toNat (n : Nat) {x : Word} (hx : x.toNat ≠ 0) :
    (BitVec.ofNat 16 (n % x.toNat)).toNat = n % x.toNat :=
  Nat.mod_eq_of_lt ((Nat.mod_lt n (Nat.pos_of_ne_zero hx)).trans x.isLt)

theorem divideUnsigned_result {n d : Nat} {q r : Word} (hd : d ≠ 0) (hq : q.toNat = n / d) (hr : r.toNat = n % d) :
    divideUnsigned n d = .result q r := by
  rw [divideUnsigned, if_neg hd, if_neg (Nat.not_le.2 (hq ▸ q.isLt)), ← hq, ← hr, BitVec.ofNat_toNat,
    BitVec.ofNat_toNat, BitVec.setWidth_eq, BitVec.setWidth_eq]

/-- An unsigned divide whose quotient and remainder are words completes with them (R292, R300). -/
theorem Divides.unsigned {s : State} {i : Instr} {dst : QuotientReg} {k : DivideKind} {n : Nat} {q r : Word}
    (h : Divides s i dst k (divideUnsigned n s.x.toNat)) (hx : s.x.toNat ≠ 0) (hq : q.toNat = n / s.x.toNat)
    (hr : r.toNat = n % s.x.toNat) :
    q.toNat * s.x.toNat + r.toNat = n ∧ r.toNat < s.x.toNat ∧ CompletesTo i s ((s.setQuotient dst q).setD r)
      { wordRow q with n := if k.writesN then (wordRow q).n else none, c := some false } := by
  refine ⟨?_, ?_, (h.of_end (divideUnsigned_result hx hq hr)).completesTo_result⟩
  · rw [hq, hr, Nat.div_add_mod']
  · rw [hr]
    exact Nat.mod_lt n (Nat.pos_of_ne_zero hx)

/-! ## Signed results -/

/-- The quotient rounded toward zero is the only one that leaves such a remainder (R293). -/
theorem tdiv_eq_of_remainder {n q d : Int} (hd : d ≠ 0) (hsmall : (n - q * d).natAbs < d.natAbs)
    (hsign : 0 ≤ (n - q * d) * n) : Int.tdiv n d = q := by
  have hn : n - q * d + d * q = n := by rw [Int.mul_comm d, Int.sub_add_cancel]
  rcases Int.lt_trichotomy n 0 with hneg | rfl | hpos
  · have hr : n - q * d ≤ 0 := nonpos_of_mul_nonneg_left hsign hneg
    exact ((Int.tdiv_tmod_unique' hneg.le hd).2 ⟨hn, by omega, hr⟩).1
  · have hq : q.natAbs * d.natAbs < 1 * d.natAbs := by
      rwa [Nat.one_mul, ← Int.natAbs_mul, ← Int.natAbs_neg, ← Int.zero_sub]
    have hzero : q.natAbs < 1 := Nat.lt_of_mul_lt_mul_right hq
    rw [Int.zero_tdiv]
    omega
  · have hr : 0 ≤ n - q * d := nonneg_of_mul_nonneg_left hsign hpos
    exact ((Int.tdiv_tmod_unique hpos.le hd).2 ⟨hn, hr, by omega⟩).1

/-- -32768 by -1 is the one quotient of two words that is not a signed word. -/
theorem tdiv_toInt_fits (d x : Word) (h : ¬(d.toInt = -32768 ∧ x.toInt = -1)) :
    -32768 ≤ Int.tdiv d.toInt x.toInt ∧ Int.tdiv d.toInt x.toInt ≤ 32767 := by
  have hne : d ≠ BitVec.intMin 16 ∨ x ≠ -1#16 := by
    rw [← not_and_or]
    rintro ⟨rfl, rfl⟩
    exact h ⟨rfl, rfl⟩
  rw [← BitVec.toInt_sdiv_of_ne_or_ne d x hne]
  exact ⟨BitVec.le_toInt _, BitVec.toInt_le⟩

/-- A quotient of 16 signed bits is a word's value. -/
theorem ofInt_tdiv_toInt {n d : Int} (h : -32768 ≤ Int.tdiv n d ∧ Int.tdiv n d ≤ 32767) :
    (BitVec.ofInt 16 (Int.tdiv n d)).toInt = Int.tdiv n d :=
  BitVec.toInt_ofInt_eq_self (by decide) h.1 (Int.lt_add_one_of_le h.2)

theorem ofInt_tmod_toInt (n : Int) {x : Word} (hx : x.toInt ≠ 0) :
    (BitVec.ofInt 16 (Int.tmod n x.toInt)).toInt = Int.tmod n x.toInt := by
  have hsmall : (Int.tmod n x.toInt).natAbs < x.toInt.natAbs :=
    Int.natAbs_tmod n x.toInt ▸ Nat.mod_lt _ (Int.natAbs_pos.2 hx)
  have hlo : -32768 ≤ x.toInt := BitVec.le_toInt x
  have hhi : x.toInt ≤ 32767 := BitVec.toInt_le
  exact BitVec.toInt_ofInt_eq_self (by decide) (by omega) (by omega)

theorem divideSigned_result {n d : Int} {q r : Word} (hd : d ≠ 0) (hq : q.toInt = Int.tdiv n d)
    (hr : r.toInt = Int.tmod n d) : divideSigned n d = .result q r := by
  have hlo : -32768 ≤ q.toInt := BitVec.le_toInt q
  have hhi : q.toInt ≤ 32767 := BitVec.toInt_le
  rw [divideSigned, if_neg hd, ← hq, ← hr, if_neg (by omega), BitVec.ofInt_toInt, BitVec.ofInt_toInt]

/-- A signed divide whose quotient and remainder are words completes with them (R292, R293, R301). -/
theorem Divides.signed {s : State} {i : Instr} {dst : QuotientReg} {k : DivideKind} {n : Int} {q r : Word}
    (h : Divides s i dst k (divideSigned n s.x.toInt)) (hx : s.x.toInt ≠ 0) (hq : q.toInt = Int.tdiv n s.x.toInt)
    (hr : r.toInt = Int.tmod n s.x.toInt) :
    q.toInt * s.x.toInt + r.toInt = n ∧ r.toInt.natAbs < s.x.toInt.natAbs ∧ 0 ≤ r.toInt * n ∧
    CompletesTo i s ((s.setQuotient dst q).setD r)
      { wordRow q with n := if k.writesN then (wordRow q).n else none, c := some false } := by
  have hn : r.toInt = n - Int.tdiv n s.x.toInt * s.x.toInt := by rw [hr, Int.tmod_def, Int.mul_comm]
  obtain ⟨hsmall, hsign⟩ := tdiv_remainder (n := n) hx
  rw [← hn] at hsmall hsign
  refine ⟨?_, hsmall, hsign, (h.of_end (divideSigned_result hx hq hr)).completesTo_result⟩
  rw [hq, hn, add_sub_cancel]

end Sys2Proof.Machine

namespace Sys2Proof

open Sys2Proof.Machine Sys2Proof.Safety

/-- Settles O54: each dividend is below 2^16 divisors: Y below X for EDIV, D below X for FDIV, D a word for IDIV. -/
theorem unsignedDivisions : Obligations.UnsignedDivisions := by
  intro s hx
  rw [← State.d_toNat]
  have hd : s.d.toNat < 65536 := s.d.isLt
  refine ⟨_, _, _, _, _, _,
    fun hlt => Divides.ediv.unsigned hx (ofNat_div_toNat ?ediv) (ofNat_mod_toNat _ hx),
    Divides.idiv.unsigned hx (ofNat_div_toNat ?idiv) (ofNat_mod_toNat _ hx),
    fun hlt => Divides.fdiv.unsigned hx (ofNat_div_toNat ?fdiv) (ofNat_mod_toNat _ hx)⟩
  case ediv => rw [State.ydNat]; omega
  case idiv => omega
  case fdiv => omega

/-- Settles O55: EDIVS by the uniqueness of the truncated quotient, IDIVS because only -32768 by -1 leaves 16 bits. -/
theorem signedDivisions : Obligations.SignedDivisions := by
  intro s n d hx hd hn
  obtain rfl : d = s.d := by rw [← BitVec.toNat_inj, hd, State.d_toNat]
  obtain rfl : n = s.ydInt := by rw [hn, hd, State.ydInt_eq]
  refine ⟨_, _, _, _, fun ⟨q, hlo, hhi, hsmall, hsign⟩ =>
      Divides.edivs.signed hx (ofInt_tdiv_toInt ?fits) (ofInt_tmod_toInt _ hx),
    fun hcorner => Divides.idivs.signed hx (ofInt_tdiv_toInt (tdiv_toInt_fits s.d s.x hcorner))
      (ofInt_tmod_toInt _ hx)⟩
  case fits =>
    rw [tdiv_eq_of_remainder hx hsmall hsign]
    exact ⟨hlo, hhi⟩

end Sys2Proof
end

section
/-! SUPPORT. The shifts and rotates of A, B and D (R332, R333): each is one byte long and puts the result and the carry
of its operation into the register and the row of R333. -/

namespace Sys2Proof.Machine

open Sys2Proof.Safety

/-! ## Operations on a word -/

theorem ShiftOut.update_eq_shiftRow16 (o : ShiftOut 16) : o.update = shiftRow16 o.r.toNat o.k := by
  rw [ShiftOut.update, shiftRow16, beq_zero_eq_decide, BitVec.msb_eq_decide]

theorem shiftLeft_word_toNat (d : Word) : (shiftLeft d).r.toNat = 2 * d.toNat % 65536 := by
  rw [shiftLeft, BitVec.toNat_shiftLeft, Nat.shiftLeft_eq, Nat.mul_comm]

theorem shiftRight_word_toNat (d : Word) : (shiftRight d).r.toNat = d.toNat / 2 := by
  rw [shiftRight, BitVec.toNat_ushiftRight, Nat.shiftRight_eq_div_pow]

theorem shiftLeft_word_carry (d : Word) : (shiftLeft d).k = decide (32768 ≤ d.toNat) := BitVec.msb_eq_decide d

theorem shiftRight_word_carry (d : Word) : (shiftRight d).k = decide (d.toNat % 2 = 1) := by
  rw [shiftRight, BitVec.getLsbD, Nat.testBit_zero]

/-! ## Shifts of a register -/

section
variable {i : Instr} {s : State} {k : Bool}

theorem completesTo_shiftIntoA {o : ShiftOut 8} {r : Byte} (hl : byteLength i = 1)
    (he : exec i s = finish 1 s (shiftIntoA o s)) (hr : r.toNat = o.r.toNat) (hk : o.k = k) :
    CompletesTo i s { s with a := r } (shiftRow8 r.toNat k) := by
  obtain rfl : r = o.r := BitVec.eq_of_toNat_eq hr
  rw [← hk, ← ShiftOut.update_eq]
  exact completesTo_finish hl he rfl

theorem completesTo_shiftIntoB {o : ShiftOut 8} {r : Byte} (hl : byteLength i = 1)
    (he : exec i s = finish 1 s (shiftIntoB o s)) (hr : r.toNat = o.r.toNat) (hk : o.k = k) :
    CompletesTo i s { s with b := r } (shiftRow8 r.toNat k) := by
  obtain rfl : r = o.r := BitVec.eq_of_toNat_eq hr
  rw [← hk, ← ShiftOut.update_eq]
  exact completesTo_finish hl he rfl

/-- A shift of D leaves in A and B the bytes of its one word (R339, R343, R347). -/
theorem completesTo_shiftIntoD {o : ShiftOut 16} {hi lo : Byte} {d : Nat} (hl : byteLength i = 1)
    (he : exec i s = finish 1 s (shiftIntoD o s)) (hd : hi.toNat * 256 + lo.toNat = d) (ho : o.r.toNat = d)
    (hk : o.k = k) : CompletesTo i s { s with a := hi, b := lo } (shiftRow16 d k) := by
  have hr : o.r = joinBytes hi lo := by rw [← BitVec.toNat_inj, joinBytes_toNat, ho, hd]
  rw [← hk, ← ho, ← ShiftOut.update_eq_shiftRow16]
  exact completesTo_finish hl (by rw [he, shiftIntoD, hr, setD_joinBytes]) rfl

end

end Sys2Proof.Machine

namespace Sys2Proof

open Sys2Proof.Machine Sys2Proof.Safety

/-- Settles O58: each instruction puts its operation of R332, taken by numbers, into A or B with the row of R333. -/
theorem accumulatorShifts : Obligations.AccumulatorShifts := by
  intro s r
  rw [carry_eq_flagC]
  refine ⟨fun p hp => ?lsl, fun top la lb h => ?right, fun hr => ?asra, fun hr => ?asrb, fun hr => ?rola,
    fun hr => ?rolb⟩
  case lsl =>
    simp only [List.mem_cons, List.not_mem_nil, or_false] at hp
    rcases hp with rfl | rfl <;>
      exact ⟨fun hr => completesTo_shiftIntoA rfl rfl (hr.trans (shiftLeft_toNat _).symm) (msb_eq_le _),
        fun hr => completesTo_shiftIntoB rfl rfl (hr.trans (shiftLeft_toNat _).symm) (msb_eq_le _)⟩
  case right =>
    rcases h with ⟨rfl, rfl, rfl⟩ | ⟨rfl, rfl, rfl⟩
    · exact ⟨fun hr => completesTo_shiftIntoA rfl rfl (hr.trans (shiftRight_toNat _).symm) (getLsbD_zero_eq _),
        fun hr => completesTo_shiftIntoB rfl rfl (hr.trans (shiftRight_toNat _).symm) (getLsbD_zero_eq _)⟩
    · exact ⟨fun hr => completesTo_shiftIntoA rfl rfl (hr.trans (rotateRight_toNat _ _).symm) (getLsbD_zero_eq _),
        fun hr => completesTo_shiftIntoB rfl rfl (hr.trans (rotateRight_toNat _ _).symm) (getLsbD_zero_eq _)⟩
  case asra => exact completesTo_shiftIntoA rfl rfl (hr.trans (shiftRightArith_toNat _).symm) (getLsbD_zero_eq _)
  case asrb => exact completesTo_shiftIntoB rfl rfl (hr.trans (shiftRightArith_toNat _).symm) (getLsbD_zero_eq _)
  case rola => exact completesTo_shiftIntoA rfl rfl (hr.trans (rotateLeft_toNat _ _).symm) (msb_eq_le _)
  case rolb => exact completesTo_shiftIntoB rfl rfl (hr.trans (rotateLeft_toNat _ _).symm) (msb_eq_le _)

/-- Settles O59: D is shifted as the one word `A : B`, whose bytes are the new A and B. -/
theorem doubleShifts : Obligations.DoubleShifts := by
  intro s hi lo
  rw [← State.d_toNat]
  refine ⟨fun hd i hmem => ?lsld, fun hd => ?lsrd⟩
  case lsld =>
    simp only [List.mem_cons, List.not_mem_nil, or_false] at hmem
    rcases hmem with rfl | rfl <;>
      exact completesTo_shiftIntoD rfl rfl hd (shiftLeft_word_toNat _) (shiftLeft_word_carry _)
  case lsrd => exact completesTo_shiftIntoD rfl rfl hd (shiftRight_word_toNat _) (shiftRight_word_carry _)

end Sys2Proof
end
